-- ==== Sys2Proof/Word.lean ====
section
/-!
DEFINITION. The word types of the CPU16 (spec 00_scope.md R4, 10_state.md R20, 20_memory.md R90).
Only names for widths stand here; every helper over them is in Machine/Bits.lean.
-/

namespace Sys2Proof

/-- A byte: 8 bits (20_memory.md R99). -/
abbrev Byte := BitVec 8

/-- A word: 16 bits (20_memory.md R99). -/
abbrev Word := BitVec 16

/-- A 4-bit extension field or bank number (10_state.md R25). -/
abbrev Nibble := BitVec 4

/-- A 20-bit address, bank : byte address (20_memory.md R91). -/
abbrev Addr := BitVec 20

/-- The 36-bit MAC accumulator (10_state.md R55). -/
abbrev Acc := BitVec 36

end Sys2Proof
end

