-- ==== Sys2Proof/Machine/Bits.lean ====
section
/-!
DEFINITION. Bit-field, byte-order and sign-extension helpers (spec 00_scope.md R5, 20_memory.md R100).
-/

namespace Sys2Proof

/-- The high byte of a word, bits [15:8]. -/
def hi (w : Word) : Byte := w.extractLsb' 8 8

/-- The low byte of a word, bits [7:0]. -/
def lo (w : Word) : Byte := w.extractLsb' 0 8

/-- Bits [19:16] of a 20-bit address: the bank (20_memory.md R91). -/
def bank (a : Addr) : Nibble := a.extractLsb' 16 4

/-- Bits [15:0] of a 20-bit address. -/
def offset (a : Addr) : Word := a.extractLsb' 0 16

/-- Sign extension of a byte to 16 bits. -/
def sext16 (b : Byte) : Word := b.signExtend 16

/-- Sign extension of a byte to 20 bits. -/
def sext20b (b : Byte) : Addr := b.signExtend 20

/-- Sign extension of a word to 20 bits. -/
def sext20 (w : Word) : Addr := w.signExtend 20

/-- Zero extension of a byte to 20 bits. -/
def zext20b (b : Byte) : Addr := b.setWidth 20

/-- Zero extension of a word to 20 bits. -/
def zext20 (w : Word) : Addr := w.setWidth 20

/-- A word with bit 0 forced to 0, as every value loaded into PC (10_state.md R34). -/
def even16 (w : Word) : Word := w &&& 0xFFFE#16

/-- An address with bit 0 forced to 0, as every value loaded into PK:PC (10_state.md R34). -/
def even20 (a : Addr) : Addr := a &&& 0xFFFFE#20

end Sys2Proof
end

