-- ==== Sys2Proof/Syntax.lean ====
section
/-!
DEFINITION. The instructions of the CPU16 as syntax: one constructor per mnemonic of spec/opcode_table.json, its
operand forms (the addressing-mode rows of the table) as an argument (30_encoding.md R152 to R174, log entry 25).
-/

namespace Sys2Proof

/-- An index register, with its extension field XK, YK or ZK (10_state.md R24). -/
inductive Idx where
  | x
  | y
  | z
deriving DecidableEq, Repr

/-- A memory operand: IND8, IND16, EXT or accumulator offset (30_encoding.md R163, R165, R166, R168). -/
inductive MemOp where
  | ind8 (r : Idx) (ff : Byte)
  | ind16 (r : Idx) (gggg : Word)
  | ext (hhll : Word)
  | eoff (r : Idx)
deriving DecidableEq, Repr

/-- A byte source: IMM8 or memory (30_encoding.md R161). -/
inductive Src8 where
  | imm (ii : Byte)
  | mem (m : MemOp)
deriving DecidableEq, Repr

/-- A word source: sign-extended IMM8 (ADDD and ADDE only), IMM16 or memory (30_encoding.md R161, R162). -/
inductive Src16 where
  | imm8 (ii : Byte)
  | imm16 (jjkk : Word)
  | mem (m : MemOp)
deriving DecidableEq, Repr

/-- The immediate of AIS, AIX, AIY, AIZ (45_indexing_extension.md R479, 46_stacking_ccr.md R540). -/
inductive Imm where
  | imm8 (ii : Byte)
  | imm16 (jjkk : Word)
deriving DecidableEq, Repr

/-- The target of JMP and JSR: EXT20 or IND20 (30_encoding.md R164, R167). -/
inductive JmpOp where
  | ext20 (target : Addr)
  | ind20 (r : Idx) (off : Addr)
deriving DecidableEq, Repr

/-- The operands of MOVB and MOVW: IXP to EXT, EXT to IXP, EXT to EXT (40_data_movement.md R206). -/
inductive MovOp where
  | ixpToExt (ff : Byte) (hhll : Word)
  | extToIxp (ff : Byte) (hhll : Word)
  | extToExt (src dst : Word)
deriving DecidableEq, Repr

/-- The operand and offset of BRCLR and BRSET: IND8 with REL8, IND16 or EXT with REL16
(44_program_control.md R435). -/
inductive BrOp where
  | ind8 (r : Idx) (ff rr : Byte)
  | ind16 (r : Idx) (gggg rrrr : Word)
  | ext (hhll rrrr : Word)
deriving DecidableEq, Repr

/-- The 261 instructions, in the order in which the opcode table first names them. Each line names the rule that
gives the instruction its meaning. -/
inductive Instr where
  /-- COM: R313. -/
  | com (m : MemOp)
  /-- DEC: R299. -/
  | dec (m : MemOp)
  /-- NEG: R319. -/
  | neg (m : MemOp)
  /-- INC: R303. -/
  | inc (m : MemOp)
  /-- ASL: R360. -/
  | asl (m : MemOp)
  /-- CLR: R307. -/
  | clr (m : MemOp)
  /-- TST: R268. -/
  | tst (m : MemOp)
  /-- BCLR: R355. -/
  | bclr (mm : Byte) (m : MemOp)
  /-- BSET: R357. -/
  | bset (mm : Byte) (m : MemOp)
  /-- BRCLR: R435. -/
  | brclr (mm : Byte) (op : BrOp)
  /-- BRSET: R436. -/
  | brset (mm : Byte) (op : BrOp)
  /-- ROL: R378. -/
  | rol (m : MemOp)
  /-- ASR: R366. -/
  | asr (m : MemOp)
  /-- ROR: R384. -/
  | ror (m : MemOp)
  /-- LSR: R372. -/
  | lsr (m : MemOp)
  /-- MOVB: R206. -/
  | movb (op : MovOp)
  /-- MOVW: R207. -/
  | movw (op : MovOp)
  /-- PSHM: R550. -/
  | pshm (mask : Byte)
  /-- PULM: R551. -/
  | pulm (mask : Byte)
  /-- BSR: R440. -/
  | bsr (rr : Byte)
  /-- AIX: R479. -/
  | aix (i : Imm)
  /-- AIY: R480. -/
  | aiy (i : Imm)
  /-- AIZ: R481. -/
  | aiz (i : Imm)
  /-- AIS: R540. -/
  | ais (i : Imm)
  /-- SUBA: R257. -/
  | suba (src : Src8)
  /-- ADDA: R246. -/
  | adda (src : Src8)
  /-- SBCA: R252. -/
  | sbca (src : Src8)
  /-- ADCA: R242. -/
  | adca (src : Src8)
  /-- EORA: R345. -/
  | eora (src : Src8)
  /-- LDAA: R201. -/
  | ldaa (src : Src8)
  /-- ANDA: R341. -/
  | anda (src : Src8)
  /-- ORAA: R349. -/
  | oraa (src : Src8)
  /-- CMPA: R264. -/
  | cmpa (src : Src8)
  /-- BITA: R353. -/
  | bita (src : Src8)
  /-- STAA: R208. -/
  | staa (m : MemOp)
  /-- JMP: R437. -/
  | jmp (op : JmpOp)
  /-- CPX: R482. -/
  | cpx (src : Src16)
  /-- CPY: R483. -/
  | cpy (src : Src16)
  /-- CPZ: R484. -/
  | cpz (src : Src16)
  /-- CPS: R541. -/
  | cps (src : Src16)
  /-- MAC: R580. -/
  | mac (xoyo : Byte)
  /-- ADDE: R249. -/
  | adde (src : Src16)
  /-- SUBD: R259. -/
  | subd (src : Src16)
  /-- ADDD: R248. -/
  | addd (src : Src16)
  /-- SBCD: R254. -/
  | sbcd (src : Src16)
  /-- ADCD: R244. -/
  | adcd (src : Src16)
  /-- EORD: R347. -/
  | eord (src : Src16)
  /-- LDD: R203. -/
  | ldd (src : Src16)
  /-- ANDD: R343. -/
  | andd (src : Src16)
  /-- ORD: R351. -/
  | ord (src : Src16)
  /-- CPD: R266. -/
  | cpd (src : Src16)
  /-- JSR: R439. -/
  | jsr (op : JmpOp)
  /-- STD: R210. -/
  | std (m : MemOp)
  /-- STX: R488. -/
  | stx (m : MemOp)
  /-- STY: R489. -/
  | sty (m : MemOp)
  /-- STZ: R490. -/
  | stz (m : MemOp)
  /-- STS: R543. -/
  | sts (m : MemOp)
  /-- BRA: R413. -/
  | bra (rr : Byte)
  /-- BRN: R414. -/
  | brn (rr : Byte)
  /-- BHI: R406. -/
  | bhi (rr : Byte)
  /-- BLS: R408. -/
  | bls (rr : Byte)
  /-- BCC: R401. -/
  | bcc (rr : Byte)
  /-- BCS: R402. -/
  | bcs (rr : Byte)
  /-- BNE: R411. -/
  | bne (rr : Byte)
  /-- BEQ: R403. -/
  | beq (rr : Byte)
  /-- BVC: R415. -/
  | bvc (rr : Byte)
  /-- BVS: R416. -/
  | bvs (rr : Byte)
  /-- BPL: R412. -/
  | bpl (rr : Byte)
  /-- BMI: R410. -/
  | bmi (rr : Byte)
  /-- BGE: R404. -/
  | bge (rr : Byte)
  /-- BLT: R409. -/
  | blt (rr : Byte)
  /-- BGT: R405. -/
  | bgt (rr : Byte)
  /-- BLE: R407. -/
  | ble (rr : Byte)
  /-- SUBB: R258. -/
  | subb (src : Src8)
  /-- ADDB: R247. -/
  | addb (src : Src8)
  /-- SBCB: R253. -/
  | sbcb (src : Src8)
  /-- ADCB: R243. -/
  | adcb (src : Src8)
  /-- EORB: R346. -/
  | eorb (src : Src8)
  /-- LDAB: R202. -/
  | ldab (src : Src8)
  /-- ANDB: R342. -/
  | andb (src : Src8)
  /-- ORAB: R350. -/
  | orab (src : Src8)
  /-- CMPB: R265. -/
  | cmpb (src : Src8)
  /-- BITB: R354. -/
  | bitb (src : Src8)
  /-- STAB: R209. -/
  | stab (m : MemOp)
  /-- LDX: R485. -/
  | ldx (src : Src16)
  /-- LDY: R486. -/
  | ldy (src : Src16)
  /-- LDZ: R487. -/
  | ldz (src : Src16)
  /-- LDS: R542. -/
  | lds (src : Src16)
  /-- RMAC: R581. -/
  | rmac (xoyo : Byte)
  /-- COMW: R318. -/
  | comw (m : MemOp)
  /-- DECW: R302. -/
  | decw (m : MemOp)
  /-- NEGW: R324. -/
  | negw (m : MemOp)
  /-- INCW: R306. -/
  | incw (m : MemOp)
  /-- ASLW: R365. -/
  | aslw (m : MemOp)
  /-- CLRW: R312. -/
  | clrw (m : MemOp)
  /-- TSTW: R273. -/
  | tstw (m : MemOp)
  /-- BCLRW: R356. -/
  | bclrw (mmmm : Word) (m : MemOp)
  /-- BSETW: R358. -/
  | bsetw (mmmm : Word) (m : MemOp)
  /-- ROLW: R383. -/
  | rolw (m : MemOp)
  /-- ASRW: R371. -/
  | asrw (m : MemOp)
  /-- RORW: R389. -/
  | rorw (m : MemOp)
  /-- LSRW: R377. -/
  | lsrw (m : MemOp)
  /-- NOP: R613. -/
  | nop
  /-- TYX: R498. -/
  | tyx
  /-- TZX: R501. -/
  | tzx
  /-- TSX: R491. -/
  | tsx
  /-- TXY: R495. -/
  | txy
  /-- TZY: R502. -/
  | tzy
  /-- TSY: R492. -/
  | tsy
  /-- TXZ: R496. -/
  | txz
  /-- TYZ: R499. -/
  | tyz
  /-- TSZ: R493. -/
  | tsz
  /-- COME: R317. -/
  | come
  /-- LDED: R205. -/
  | lded (hhll : Word)
  /-- NEGE: R323. -/
  | nege
  /-- STED: R212. -/
  | sted (hhll : Word)
  /-- ASLE: R364. -/
  | asle
  /-- CLRE: R311. -/
  | clre
  /-- TSTE: R272. -/
  | tste
  /-- RTI: R443. -/
  | rti
  /-- ADE: R250. -/
  | ade
  /-- SDE: R256. -/
  | sde
  /-- XGDE: R218. -/
  | xgde
  /-- TDE: R215. -/
  | tde
  /-- ROLE: R382. -/
  | role
  /-- ASRE: R370. -/
  | asre
  /-- RORE: R388. -/
  | rore
  /-- LSRE: R376. -/
  | lsre
  /-- LDHI: R582. -/
  | ldhi
  /-- TEDM: R588. -/
  | tedm
  /-- TEM: R589. -/
  | tem
  /-- TMXED: R593. -/
  | tmxed
  /-- TMER: R591. -/
  | tmer
  /-- TMET: R592. -/
  | tmet
  /-- ASLM: R577. -/
  | aslm
  /-- CLRM: R579. -/
  | clrm
  /-- PSHMAC: R586. -/
  | pshmac
  /-- PULMAC: R587. -/
  | pulmac
  /-- ASRM: R578. -/
  | asrm
  /-- TEKB: R514. -/
  | tekb
  /-- COMD: R316. -/
  | comd
  /-- LPSTOP: R610. -/
  | lpstop
  /-- NEGD: R322. -/
  | negd
  /-- WAI: R611. -/
  | wai
  /-- ASLD: R363. -/
  | asld
  /-- CLRD: R310. -/
  | clrd
  /-- TSTD: R271. -/
  | tstd
  /-- RTS: R442. -/
  | rts
  /-- SXT: R262. -/
  | sxt
  /-- LBSR: R441. -/
  | lbsr (rrrr : Word)
  /-- TBEK: R509. -/
  | tbek
  /-- TED: R216. -/
  | ted
  /-- ROLD: R381. -/
  | rold
  /-- ASRD: R369. -/
  | asrd
  /-- RORD: R387. -/
  | rord
  /-- LSRD: R375. -/
  | lsrd
  /-- COMA: R314. -/
  | coma
  /-- DECA: R300. -/
  | deca
  /-- NEGA: R320. -/
  | nega
  /-- INCA: R304. -/
  | inca
  /-- ASLA: R361. -/
  | asla
  /-- CLRA: R308. -/
  | clra
  /-- TSTA: R269. -/
  | tsta
  /-- TBA: R214. -/
  | tba
  /-- PSHA: R544. -/
  | psha
  /-- PULA: R546. -/
  | pula
  /-- SBA: R251. -/
  | sba
  /-- ABA: R241. -/
  | aba
  /-- ROLA: R379. -/
  | rola
  /-- ASRA: R367. -/
  | asra
  /-- RORA: R385. -/
  | rora
  /-- LSRA: R373. -/
  | lsra
  /-- COMB: R315. -/
  | comb
  /-- DECB: R301. -/
  | decb
  /-- NEGB: R321. -/
  | negb
  /-- INCB: R305. -/
  | incb
  /-- ASLB: R362. -/
  | aslb
  /-- CLRB: R309. -/
  | clrb
  /-- TSTB: R270. -/
  | tstb
  /-- TAB: R213. -/
  | tab
  /-- PSHB: R545. -/
  | pshb
  /-- PULB: R547. -/
  | pulb
  /-- XGAB: R217. -/
  | xgab
  /-- CBA: R263. -/
  | cba
  /-- ROLB: R380. -/
  | rolb
  /-- ASRB: R368. -/
  | asrb
  /-- RORB: R386. -/
  | rorb
  /-- LSRB: R374. -/
  | lsrb
  /-- SWI: R444. -/
  | swi
  /-- DAA: R261. -/
  | daa
  /-- ACE: R575. -/
  | ace
  /-- ACED: R576. -/
  | aced
  /-- MUL: R298. -/
  | mul
  /-- EMUL: R293. -/
  | emul
  /-- EMULS: R294. -/
  | emuls
  /-- FMULS: R296. -/
  | fmuls
  /-- EDIV: R291. -/
  | ediv
  /-- EDIVS: R292. -/
  | edivs
  /-- IDIV: R297. -/
  | idiv
  /-- FDIV: R295. -/
  | fdiv
  /-- TPD: R557. -/
  | tpd
  /-- TDP: R555. -/
  | tdp
  /-- TDMSK: R583. -/
  | tdmsk
  /-- SUBE: R260. -/
  | sube (src : Src16)
  /-- SBCE: R255. -/
  | sbce (src : Src16)
  /-- ADCE: R245. -/
  | adce (src : Src16)
  /-- EORE: R348. -/
  | eore (src : Src16)
  /-- LDE: R204. -/
  | lde (src : Src16)
  /-- ANDE: R344. -/
  | ande (src : Src16)
  /-- ORE: R352. -/
  | ore (src : Src16)
  /-- CPE: R267. -/
  | cpe (src : Src16)
  /-- ANDP: R552. -/
  | andp (jjkk : Word)
  /-- ORP: R553. -/
  | orp (jjkk : Word)
  /-- STE: R211. -/
  | ste (m : MemOp)
  /-- XGEX: R506. -/
  | xgex
  /-- AEX: R476. -/
  | aex
  /-- TXS: R494. -/
  | txs
  /-- ABX: R470. -/
  | abx
  /-- XGEY: R507. -/
  | xgey
  /-- AEY: R477. -/
  | aey
  /-- TYS: R497. -/
  | tys
  /-- ABY: R471. -/
  | aby
  /-- XGEZ: R508. -/
  | xgez
  /-- AEZ: R478. -/
  | aez
  /-- TZS: R500. -/
  | tzs
  /-- ABZ: R472. -/
  | abz
  /-- LBRA: R431. -/
  | lbra (rrrr : Word)
  /-- LBRN: R432. -/
  | lbrn (rrrr : Word)
  /-- LBHI: R423. -/
  | lbhi (rrrr : Word)
  /-- LBLS: R425. -/
  | lbls (rrrr : Word)
  /-- LBCC: R417. -/
  | lbcc (rrrr : Word)
  /-- LBCS: R418. -/
  | lbcs (rrrr : Word)
  /-- LBNE: R429. -/
  | lbne (rrrr : Word)
  /-- LBEQ: R419. -/
  | lbeq (rrrr : Word)
  /-- LBVC: R433. -/
  | lbvc (rrrr : Word)
  /-- LBVS: R434. -/
  | lbvs (rrrr : Word)
  /-- LBPL: R430. -/
  | lbpl (rrrr : Word)
  /-- LBMI: R427. -/
  | lbmi (rrrr : Word)
  /-- LBGE: R421. -/
  | lbge (rrrr : Word)
  /-- LBLT: R426. -/
  | lblt (rrrr : Word)
  /-- LBGT: R422. -/
  | lbgt (rrrr : Word)
  /-- LBLE: R424. -/
  | lble (rrrr : Word)
  /-- LBMV: R428. -/
  | lbmv (rrrr : Word)
  /-- LBEV: R420. -/
  | lbev (rrrr : Word)
  /-- TBXK: R511. -/
  | tbxk
  /-- TBYK: R512. -/
  | tbyk
  /-- TBZK: R513. -/
  | tbzk
  /-- TBSK: R510. -/
  | tbsk
  /-- BGND: R612. -/
  | bgnd
  /-- TXKB: R516. -/
  | txkb
  /-- TYKB: R517. -/
  | tykb
  /-- TZKB: R518. -/
  | tzkb
  /-- TSKB: R515. -/
  | tskb
  /-- XGDX: R503. -/
  | xgdx
  /-- ADX: R473. -/
  | adx
  /-- XGDY: R504. -/
  | xgdy
  /-- ADY: R474. -/
  | ady
  /-- XGDZ: R505. -/
  | xgdz
  /-- ADZ: R475. -/
  | adz
  /-- TPA: R556. -/
  | tpa
  /-- TAP: R554. -/
  | tap
deriving DecidableEq, Repr

/-- Why the decoder has no instruction for a word: the cell `op` of opcode page `page` is undefined
(30_encoding.md R157). -/
inductive DecodeReject where
  | undefinedOpcode (page : Nat) (op : Byte)
deriving DecidableEq, Repr

end Sys2Proof
end

