-- ==== Sys2Proof/WellFormed.lean ====
section
/-!
DEFINITION. Which operand forms each instruction has (spec 30_encoding.md R174): a term is well formed when the
opcode table has a row for its mnemonic and form.
-/

namespace Sys2Proof

/-- IND8, IND16 or EXT: no accumulator offset (30_encoding.md R174, byte memory operations). -/
def MemOp.noOffset (m : MemOp) : Bool :=
  match m with
  | .ind8 _ _ => true
  | .ind16 _ _ => true
  | .ext _ => true
  | .eoff _ => false

/-- IND16 or EXT only (30_encoding.md R174, word memory operations). -/
def MemOp.wordForm (m : MemOp) : Bool :=
  match m with
  | .ind8 _ _ => false
  | .ind16 _ _ => true
  | .ext _ => true
  | .eoff _ => false

/-- The sources of the D operations but ADDD: no IMM8 (30_encoding.md R174). -/
def Src16.forD (src : Src16) : Bool :=
  match src with
  | .imm8 _ => false
  | .imm16 _ => true
  | .mem _ => true

/-- The sources of the E operations but ADDE: IMM16, IND16, EXT (30_encoding.md R174). -/
def Src16.forE (src : Src16) : Bool :=
  match src with
  | .imm8 _ => false
  | .imm16 _ => true
  | .mem m => m.wordForm

/-- The sources of ADDE: IMM8, IMM16, IND16, EXT (30_encoding.md R174). -/
def Src16.forAdde (src : Src16) : Bool :=
  match src with
  | .imm8 _ => true
  | .imm16 _ => true
  | .mem m => m.wordForm

/-- The sources of the index register and stack pointer loads and compares: IMM16, IND8, IND16, EXT
(30_encoding.md R174). -/
def Src16.forIndex (src : Src16) : Bool :=
  match src with
  | .imm8 _ => false
  | .imm16 _ => true
  | .mem m => m.noOffset

/-- The instruction has a row in the opcode table for its operand form (30_encoding.md R174). -/
def Instr.wellFormed (i : Instr) : Bool :=
  match i with
  | .com m => m.noOffset
  | .dec m => m.noOffset
  | .neg m => m.noOffset
  | .inc m => m.noOffset
  | .asl m => m.noOffset
  | .clr m => m.noOffset
  | .tst m => m.noOffset
  | .bclr _ m => m.noOffset
  | .bset _ m => m.noOffset
  | .brclr _ _ => true
  | .brset _ _ => true
  | .rol m => m.noOffset
  | .asr m => m.noOffset
  | .ror m => m.noOffset
  | .lsr m => m.noOffset
  | .movb _ => true
  | .movw _ => true
  | .pshm _ => true
  | .pulm _ => true
  | .bsr _ => true
  | .aix _ => true
  | .aiy _ => true
  | .aiz _ => true
  | .ais _ => true
  | .suba _ => true
  | .adda _ => true
  | .sbca _ => true
  | .adca _ => true
  | .eora _ => true
  | .ldaa _ => true
  | .anda _ => true
  | .oraa _ => true
  | .cmpa _ => true
  | .bita _ => true
  | .staa _ => true
  | .jmp _ => true
  | .cpx src => src.forIndex
  | .cpy src => src.forIndex
  | .cpz src => src.forIndex
  | .cps src => src.forIndex
  | .mac _ => true
  | .adde src => src.forAdde
  | .subd src => src.forD
  | .addd _ => true
  | .sbcd src => src.forD
  | .adcd src => src.forD
  | .eord src => src.forD
  | .ldd src => src.forD
  | .andd src => src.forD
  | .ord src => src.forD
  | .cpd src => src.forD
  | .jsr _ => true
  | .std _ => true
  | .stx m => m.noOffset
  | .sty m => m.noOffset
  | .stz m => m.noOffset
  | .sts m => m.noOffset
  | .bra _ => true
  | .brn _ => true
  | .bhi _ => true
  | .bls _ => true
  | .bcc _ => true
  | .bcs _ => true
  | .bne _ => true
  | .beq _ => true
  | .bvc _ => true
  | .bvs _ => true
  | .bpl _ => true
  | .bmi _ => true
  | .bge _ => true
  | .blt _ => true
  | .bgt _ => true
  | .ble _ => true
  | .subb _ => true
  | .addb _ => true
  | .sbcb _ => true
  | .adcb _ => true
  | .eorb _ => true
  | .ldab _ => true
  | .andb _ => true
  | .orab _ => true
  | .cmpb _ => true
  | .bitb _ => true
  | .stab _ => true
  | .ldx src => src.forIndex
  | .ldy src => src.forIndex
  | .ldz src => src.forIndex
  | .lds src => src.forIndex
  | .rmac _ => true
  | .comw m => m.wordForm
  | .decw m => m.wordForm
  | .negw m => m.wordForm
  | .incw m => m.wordForm
  | .aslw m => m.wordForm
  | .clrw m => m.wordForm
  | .tstw m => m.wordForm
  | .bclrw _ m => m.wordForm
  | .bsetw _ m => m.wordForm
  | .rolw m => m.wordForm
  | .asrw m => m.wordForm
  | .rorw m => m.wordForm
  | .lsrw m => m.wordForm
  | .nop => true
  | .tyx => true
  | .tzx => true
  | .tsx => true
  | .txy => true
  | .tzy => true
  | .tsy => true
  | .txz => true
  | .tyz => true
  | .tsz => true
  | .come => true
  | .lded _ => true
  | .nege => true
  | .sted _ => true
  | .asle => true
  | .clre => true
  | .tste => true
  | .rti => true
  | .ade => true
  | .sde => true
  | .xgde => true
  | .tde => true
  | .role => true
  | .asre => true
  | .rore => true
  | .lsre => true
  | .ldhi => true
  | .tedm => true
  | .tem => true
  | .tmxed => true
  | .tmer => true
  | .tmet => true
  | .aslm => true
  | .clrm => true
  | .pshmac => true
  | .pulmac => true
  | .asrm => true
  | .tekb => true
  | .comd => true
  | .lpstop => true
  | .negd => true
  | .wai => true
  | .asld => true
  | .clrd => true
  | .tstd => true
  | .rts => true
  | .sxt => true
  | .lbsr _ => true
  | .tbek => true
  | .ted => true
  | .rold => true
  | .asrd => true
  | .rord => true
  | .lsrd => true
  | .coma => true
  | .deca => true
  | .nega => true
  | .inca => true
  | .asla => true
  | .clra => true
  | .tsta => true
  | .tba => true
  | .psha => true
  | .pula => true
  | .sba => true
  | .aba => true
  | .rola => true
  | .asra => true
  | .rora => true
  | .lsra => true
  | .comb => true
  | .decb => true
  | .negb => true
  | .incb => true
  | .aslb => true
  | .clrb => true
  | .tstb => true
  | .tab => true
  | .pshb => true
  | .pulb => true
  | .xgab => true
  | .cba => true
  | .rolb => true
  | .asrb => true
  | .rorb => true
  | .lsrb => true
  | .swi => true
  | .daa => true
  | .ace => true
  | .aced => true
  | .mul => true
  | .emul => true
  | .emuls => true
  | .fmuls => true
  | .ediv => true
  | .edivs => true
  | .idiv => true
  | .fdiv => true
  | .tpd => true
  | .tdp => true
  | .tdmsk => true
  | .sube src => src.forE
  | .sbce src => src.forE
  | .adce src => src.forE
  | .eore src => src.forE
  | .lde src => src.forE
  | .ande src => src.forE
  | .ore src => src.forE
  | .cpe src => src.forE
  | .andp _ => true
  | .orp _ => true
  | .ste m => m.wordForm
  | .xgex => true
  | .aex => true
  | .txs => true
  | .abx => true
  | .xgey => true
  | .aey => true
  | .tys => true
  | .aby => true
  | .xgez => true
  | .aez => true
  | .tzs => true
  | .abz => true
  | .lbra _ => true
  | .lbrn _ => true
  | .lbhi _ => true
  | .lbls _ => true
  | .lbcc _ => true
  | .lbcs _ => true
  | .lbne _ => true
  | .lbeq _ => true
  | .lbvc _ => true
  | .lbvs _ => true
  | .lbpl _ => true
  | .lbmi _ => true
  | .lbge _ => true
  | .lblt _ => true
  | .lbgt _ => true
  | .lble _ => true
  | .lbmv _ => true
  | .lbev _ => true
  | .tbxk => true
  | .tbyk => true
  | .tbzk => true
  | .tbsk => true
  | .bgnd => true
  | .txkb => true
  | .tykb => true
  | .tzkb => true
  | .tskb => true
  | .xgdx => true
  | .adx => true
  | .xgdy => true
  | .ady => true
  | .xgdz => true
  | .adz => true
  | .tpa => true
  | .tap => true

end Sys2Proof
end

