-- ==== Sys2Proof/Decode.lean ====
section
/-!
DEFINITION. The decoder and, after it, the encoder (spec 30_encoding.md R150 to R177). The decoder is the opcode map,
cell by cell, from spec/opcode_table.json; the encoder is written apart from it, from the regularities of R159 and the
operand layouts of R154.
-/

namespace Sys2Proof

/-! ### The decoder -/

/-- The bank nibble of a 20-bit operand: bits [3:0] of b1; the `z` nibble is ignored (30_encoding.md R158, R164;
log entry 17). -/
def nib (b : Byte) : Nibble := b.extractLsb' 0 4

/-- Page 0, opcodes $00 to $0F (30_encoding.md R177). -/
def page0Row0 (n : Nat) (b1 : Byte) (w1 w2 : Word) : Option Instr :=
  match n with
  | 0x0 => some (.com (.ind8 .x b1))
  | 0x1 => some (.dec (.ind8 .x b1))
  | 0x2 => some (.neg (.ind8 .x b1))
  | 0x3 => some (.inc (.ind8 .x b1))
  | 0x4 => some (.asl (.ind8 .x b1))
  | 0x5 => some (.clr (.ind8 .x b1))
  | 0x6 => some (.tst (.ind8 .x b1))
  | 0x8 => some (.bclr b1 (.ind16 .x w1))
  | 0x9 => some (.bset b1 (.ind16 .x w1))
  | 0xA => some (.brclr b1 (.ind16 .x w1 w2))
  | 0xB => some (.brset b1 (.ind16 .x w1 w2))
  | 0xC => some (.rol (.ind8 .x b1))
  | 0xD => some (.asr (.ind8 .x b1))
  | 0xE => some (.ror (.ind8 .x b1))
  | 0xF => some (.lsr (.ind8 .x b1))
  | _ => none

/-- Page 0, opcodes $10 to $1F (30_encoding.md R177). -/
def page0Row1 (n : Nat) (b1 : Byte) (w1 w2 : Word) : Option Instr :=
  match n with
  | 0x0 => some (.com (.ind8 .y b1))
  | 0x1 => some (.dec (.ind8 .y b1))
  | 0x2 => some (.neg (.ind8 .y b1))
  | 0x3 => some (.inc (.ind8 .y b1))
  | 0x4 => some (.asl (.ind8 .y b1))
  | 0x5 => some (.clr (.ind8 .y b1))
  | 0x6 => some (.tst (.ind8 .y b1))
  | 0x8 => some (.bclr b1 (.ind16 .y w1))
  | 0x9 => some (.bset b1 (.ind16 .y w1))
  | 0xA => some (.brclr b1 (.ind16 .y w1 w2))
  | 0xB => some (.brset b1 (.ind16 .y w1 w2))
  | 0xC => some (.rol (.ind8 .y b1))
  | 0xD => some (.asr (.ind8 .y b1))
  | 0xE => some (.ror (.ind8 .y b1))
  | 0xF => some (.lsr (.ind8 .y b1))
  | _ => none

/-- Page 0, opcodes $20 to $2F (30_encoding.md R177). -/
def page0Row2 (n : Nat) (b1 : Byte) (w1 w2 : Word) : Option Instr :=
  match n with
  | 0x0 => some (.com (.ind8 .z b1))
  | 0x1 => some (.dec (.ind8 .z b1))
  | 0x2 => some (.neg (.ind8 .z b1))
  | 0x3 => some (.inc (.ind8 .z b1))
  | 0x4 => some (.asl (.ind8 .z b1))
  | 0x5 => some (.clr (.ind8 .z b1))
  | 0x6 => some (.tst (.ind8 .z b1))
  | 0x8 => some (.bclr b1 (.ind16 .z w1))
  | 0x9 => some (.bset b1 (.ind16 .z w1))
  | 0xA => some (.brclr b1 (.ind16 .z w1 w2))
  | 0xB => some (.brset b1 (.ind16 .z w1 w2))
  | 0xC => some (.rol (.ind8 .z b1))
  | 0xD => some (.asr (.ind8 .z b1))
  | 0xE => some (.ror (.ind8 .z b1))
  | 0xF => some (.lsr (.ind8 .z b1))
  | _ => none

/-- Page 0, opcodes $30 to $3F (30_encoding.md R177). -/
def page0Row3 (n : Nat) (b1 : Byte) (w1 w2 : Word) : Option Instr :=
  match n with
  | 0x0 => some (.movb (.ixpToExt b1 w1))
  | 0x1 => some (.movw (.ixpToExt b1 w1))
  | 0x2 => some (.movb (.extToIxp b1 w1))
  | 0x3 => some (.movw (.extToIxp b1 w1))
  | 0x4 => some (.pshm b1)
  | 0x5 => some (.pulm b1)
  | 0x6 => some (.bsr b1)
  | 0x8 => some (.bclr b1 (.ext w1))
  | 0x9 => some (.bset b1 (.ext w1))
  | 0xA => some (.brclr b1 (.ext w1 w2))
  | 0xB => some (.brset b1 (.ext w1 w2))
  | 0xC => some (.aix (.imm8 b1))
  | 0xD => some (.aiy (.imm8 b1))
  | 0xE => some (.aiz (.imm8 b1))
  | 0xF => some (.ais (.imm8 b1))
  | _ => none

/-- Page 0, opcodes $40 to $4F (30_encoding.md R177). -/
def page0Row4 (n : Nat) (b1 : Byte) (w1 _w2 : Word) : Option Instr :=
  match n with
  | 0x0 => some (.suba (.mem (.ind8 .x b1)))
  | 0x1 => some (.adda (.mem (.ind8 .x b1)))
  | 0x2 => some (.sbca (.mem (.ind8 .x b1)))
  | 0x3 => some (.adca (.mem (.ind8 .x b1)))
  | 0x4 => some (.eora (.mem (.ind8 .x b1)))
  | 0x5 => some (.ldaa (.mem (.ind8 .x b1)))
  | 0x6 => some (.anda (.mem (.ind8 .x b1)))
  | 0x7 => some (.oraa (.mem (.ind8 .x b1)))
  | 0x8 => some (.cmpa (.mem (.ind8 .x b1)))
  | 0x9 => some (.bita (.mem (.ind8 .x b1)))
  | 0xA => some (.staa (.ind8 .x b1))
  | 0xB => some (.jmp (.ind20 .x (nib b1 ++ w1)))
  | 0xC => some (.cpx (.mem (.ind8 .x b1)))
  | 0xD => some (.cpy (.mem (.ind8 .x b1)))
  | 0xE => some (.cpz (.mem (.ind8 .x b1)))
  | 0xF => some (.cps (.mem (.ind8 .x b1)))
  | _ => none

/-- Page 0, opcodes $50 to $5F (30_encoding.md R177). -/
def page0Row5 (n : Nat) (b1 : Byte) (w1 _w2 : Word) : Option Instr :=
  match n with
  | 0x0 => some (.suba (.mem (.ind8 .y b1)))
  | 0x1 => some (.adda (.mem (.ind8 .y b1)))
  | 0x2 => some (.sbca (.mem (.ind8 .y b1)))
  | 0x3 => some (.adca (.mem (.ind8 .y b1)))
  | 0x4 => some (.eora (.mem (.ind8 .y b1)))
  | 0x5 => some (.ldaa (.mem (.ind8 .y b1)))
  | 0x6 => some (.anda (.mem (.ind8 .y b1)))
  | 0x7 => some (.oraa (.mem (.ind8 .y b1)))
  | 0x8 => some (.cmpa (.mem (.ind8 .y b1)))
  | 0x9 => some (.bita (.mem (.ind8 .y b1)))
  | 0xA => some (.staa (.ind8 .y b1))
  | 0xB => some (.jmp (.ind20 .y (nib b1 ++ w1)))
  | 0xC => some (.cpx (.mem (.ind8 .y b1)))
  | 0xD => some (.cpy (.mem (.ind8 .y b1)))
  | 0xE => some (.cpz (.mem (.ind8 .y b1)))
  | 0xF => some (.cps (.mem (.ind8 .y b1)))
  | _ => none

/-- Page 0, opcodes $60 to $6F (30_encoding.md R177). -/
def page0Row6 (n : Nat) (b1 : Byte) (w1 _w2 : Word) : Option Instr :=
  match n with
  | 0x0 => some (.suba (.mem (.ind8 .z b1)))
  | 0x1 => some (.adda (.mem (.ind8 .z b1)))
  | 0x2 => some (.sbca (.mem (.ind8 .z b1)))
  | 0x3 => some (.adca (.mem (.ind8 .z b1)))
  | 0x4 => some (.eora (.mem (.ind8 .z b1)))
  | 0x5 => some (.ldaa (.mem (.ind8 .z b1)))
  | 0x6 => some (.anda (.mem (.ind8 .z b1)))
  | 0x7 => some (.oraa (.mem (.ind8 .z b1)))
  | 0x8 => some (.cmpa (.mem (.ind8 .z b1)))
  | 0x9 => some (.bita (.mem (.ind8 .z b1)))
  | 0xA => some (.staa (.ind8 .z b1))
  | 0xB => some (.jmp (.ind20 .z (nib b1 ++ w1)))
  | 0xC => some (.cpx (.mem (.ind8 .z b1)))
  | 0xD => some (.cpy (.mem (.ind8 .z b1)))
  | 0xE => some (.cpz (.mem (.ind8 .z b1)))
  | 0xF => some (.cps (.mem (.ind8 .z b1)))
  | _ => none

/-- Page 0, opcodes $70 to $7F (30_encoding.md R177). -/
def page0Row7 (n : Nat) (b1 : Byte) (w1 _w2 : Word) : Option Instr :=
  match n with
  | 0x0 => some (.suba (.imm b1))
  | 0x1 => some (.adda (.imm b1))
  | 0x2 => some (.sbca (.imm b1))
  | 0x3 => some (.adca (.imm b1))
  | 0x4 => some (.eora (.imm b1))
  | 0x5 => some (.ldaa (.imm b1))
  | 0x6 => some (.anda (.imm b1))
  | 0x7 => some (.oraa (.imm b1))
  | 0x8 => some (.cmpa (.imm b1))
  | 0x9 => some (.bita (.imm b1))
  | 0xA => some (.jmp (.ext20 (nib b1 ++ w1)))
  | 0xB => some (.mac b1)
  | 0xC => some (.adde (.imm8 b1))
  | _ => none

/-- Page 0, opcodes $80 to $8F (30_encoding.md R177). -/
def page0Row8 (n : Nat) (b1 : Byte) (w1 _w2 : Word) : Option Instr :=
  match n with
  | 0x0 => some (.subd (.mem (.ind8 .x b1)))
  | 0x1 => some (.addd (.mem (.ind8 .x b1)))
  | 0x2 => some (.sbcd (.mem (.ind8 .x b1)))
  | 0x3 => some (.adcd (.mem (.ind8 .x b1)))
  | 0x4 => some (.eord (.mem (.ind8 .x b1)))
  | 0x5 => some (.ldd (.mem (.ind8 .x b1)))
  | 0x6 => some (.andd (.mem (.ind8 .x b1)))
  | 0x7 => some (.ord (.mem (.ind8 .x b1)))
  | 0x8 => some (.cpd (.mem (.ind8 .x b1)))
  | 0x9 => some (.jsr (.ind20 .x (nib b1 ++ w1)))
  | 0xA => some (.std (.ind8 .x b1))
  | 0xB => some (.brset b1 (.ind8 .x (hi w1) (lo w1)))
  | 0xC => some (.stx (.ind8 .x b1))
  | 0xD => some (.sty (.ind8 .x b1))
  | 0xE => some (.stz (.ind8 .x b1))
  | 0xF => some (.sts (.ind8 .x b1))
  | _ => none

/-- Page 0, opcodes $90 to $9F (30_encoding.md R177). -/
def page0Row9 (n : Nat) (b1 : Byte) (w1 _w2 : Word) : Option Instr :=
  match n with
  | 0x0 => some (.subd (.mem (.ind8 .y b1)))
  | 0x1 => some (.addd (.mem (.ind8 .y b1)))
  | 0x2 => some (.sbcd (.mem (.ind8 .y b1)))
  | 0x3 => some (.adcd (.mem (.ind8 .y b1)))
  | 0x4 => some (.eord (.mem (.ind8 .y b1)))
  | 0x5 => some (.ldd (.mem (.ind8 .y b1)))
  | 0x6 => some (.andd (.mem (.ind8 .y b1)))
  | 0x7 => some (.ord (.mem (.ind8 .y b1)))
  | 0x8 => some (.cpd (.mem (.ind8 .y b1)))
  | 0x9 => some (.jsr (.ind20 .y (nib b1 ++ w1)))
  | 0xA => some (.std (.ind8 .y b1))
  | 0xB => some (.brset b1 (.ind8 .y (hi w1) (lo w1)))
  | 0xC => some (.stx (.ind8 .y b1))
  | 0xD => some (.sty (.ind8 .y b1))
  | 0xE => some (.stz (.ind8 .y b1))
  | 0xF => some (.sts (.ind8 .y b1))
  | _ => none

/-- Page 0, opcodes $A0 to $AF (30_encoding.md R177). -/
def page0RowA (n : Nat) (b1 : Byte) (w1 _w2 : Word) : Option Instr :=
  match n with
  | 0x0 => some (.subd (.mem (.ind8 .z b1)))
  | 0x1 => some (.addd (.mem (.ind8 .z b1)))
  | 0x2 => some (.sbcd (.mem (.ind8 .z b1)))
  | 0x3 => some (.adcd (.mem (.ind8 .z b1)))
  | 0x4 => some (.eord (.mem (.ind8 .z b1)))
  | 0x5 => some (.ldd (.mem (.ind8 .z b1)))
  | 0x6 => some (.andd (.mem (.ind8 .z b1)))
  | 0x7 => some (.ord (.mem (.ind8 .z b1)))
  | 0x8 => some (.cpd (.mem (.ind8 .z b1)))
  | 0x9 => some (.jsr (.ind20 .z (nib b1 ++ w1)))
  | 0xA => some (.std (.ind8 .z b1))
  | 0xB => some (.brset b1 (.ind8 .z (hi w1) (lo w1)))
  | 0xC => some (.stx (.ind8 .z b1))
  | 0xD => some (.sty (.ind8 .z b1))
  | 0xE => some (.stz (.ind8 .z b1))
  | 0xF => some (.sts (.ind8 .z b1))
  | _ => none

/-- Page 0, opcodes $B0 to $BF (30_encoding.md R177). -/
def page0RowB (n : Nat) (b1 : Byte) (_w1 _w2 : Word) : Option Instr :=
  match n with
  | 0x0 => some (.bra b1)
  | 0x1 => some (.brn b1)
  | 0x2 => some (.bhi b1)
  | 0x3 => some (.bls b1)
  | 0x4 => some (.bcc b1)
  | 0x5 => some (.bcs b1)
  | 0x6 => some (.bne b1)
  | 0x7 => some (.beq b1)
  | 0x8 => some (.bvc b1)
  | 0x9 => some (.bvs b1)
  | 0xA => some (.bpl b1)
  | 0xB => some (.bmi b1)
  | 0xC => some (.bge b1)
  | 0xD => some (.blt b1)
  | 0xE => some (.bgt b1)
  | 0xF => some (.ble b1)
  | _ => none

/-- Page 0, opcodes $C0 to $CF (30_encoding.md R177). -/
def page0RowC (n : Nat) (b1 : Byte) (w1 _w2 : Word) : Option Instr :=
  match n with
  | 0x0 => some (.subb (.mem (.ind8 .x b1)))
  | 0x1 => some (.addb (.mem (.ind8 .x b1)))
  | 0x2 => some (.sbcb (.mem (.ind8 .x b1)))
  | 0x3 => some (.adcb (.mem (.ind8 .x b1)))
  | 0x4 => some (.eorb (.mem (.ind8 .x b1)))
  | 0x5 => some (.ldab (.mem (.ind8 .x b1)))
  | 0x6 => some (.andb (.mem (.ind8 .x b1)))
  | 0x7 => some (.orab (.mem (.ind8 .x b1)))
  | 0x8 => some (.cmpb (.mem (.ind8 .x b1)))
  | 0x9 => some (.bitb (.mem (.ind8 .x b1)))
  | 0xA => some (.stab (.ind8 .x b1))
  | 0xB => some (.brclr b1 (.ind8 .x (hi w1) (lo w1)))
  | 0xC => some (.ldx (.mem (.ind8 .x b1)))
  | 0xD => some (.ldy (.mem (.ind8 .x b1)))
  | 0xE => some (.ldz (.mem (.ind8 .x b1)))
  | 0xF => some (.lds (.mem (.ind8 .x b1)))
  | _ => none

/-- Page 0, opcodes $D0 to $DF (30_encoding.md R177). -/
def page0RowD (n : Nat) (b1 : Byte) (w1 _w2 : Word) : Option Instr :=
  match n with
  | 0x0 => some (.subb (.mem (.ind8 .y b1)))
  | 0x1 => some (.addb (.mem (.ind8 .y b1)))
  | 0x2 => some (.sbcb (.mem (.ind8 .y b1)))
  | 0x3 => some (.adcb (.mem (.ind8 .y b1)))
  | 0x4 => some (.eorb (.mem (.ind8 .y b1)))
  | 0x5 => some (.ldab (.mem (.ind8 .y b1)))
  | 0x6 => some (.andb (.mem (.ind8 .y b1)))
  | 0x7 => some (.orab (.mem (.ind8 .y b1)))
  | 0x8 => some (.cmpb (.mem (.ind8 .y b1)))
  | 0x9 => some (.bitb (.mem (.ind8 .y b1)))
  | 0xA => some (.stab (.ind8 .y b1))
  | 0xB => some (.brclr b1 (.ind8 .y (hi w1) (lo w1)))
  | 0xC => some (.ldx (.mem (.ind8 .y b1)))
  | 0xD => some (.ldy (.mem (.ind8 .y b1)))
  | 0xE => some (.ldz (.mem (.ind8 .y b1)))
  | 0xF => some (.lds (.mem (.ind8 .y b1)))
  | _ => none

/-- Page 0, opcodes $E0 to $EF (30_encoding.md R177). -/
def page0RowE (n : Nat) (b1 : Byte) (w1 _w2 : Word) : Option Instr :=
  match n with
  | 0x0 => some (.subb (.mem (.ind8 .z b1)))
  | 0x1 => some (.addb (.mem (.ind8 .z b1)))
  | 0x2 => some (.sbcb (.mem (.ind8 .z b1)))
  | 0x3 => some (.adcb (.mem (.ind8 .z b1)))
  | 0x4 => some (.eorb (.mem (.ind8 .z b1)))
  | 0x5 => some (.ldab (.mem (.ind8 .z b1)))
  | 0x6 => some (.andb (.mem (.ind8 .z b1)))
  | 0x7 => some (.orab (.mem (.ind8 .z b1)))
  | 0x8 => some (.cmpb (.mem (.ind8 .z b1)))
  | 0x9 => some (.bitb (.mem (.ind8 .z b1)))
  | 0xA => some (.stab (.ind8 .z b1))
  | 0xB => some (.brclr b1 (.ind8 .z (hi w1) (lo w1)))
  | 0xC => some (.ldx (.mem (.ind8 .z b1)))
  | 0xD => some (.ldy (.mem (.ind8 .z b1)))
  | 0xE => some (.ldz (.mem (.ind8 .z b1)))
  | 0xF => some (.lds (.mem (.ind8 .z b1)))
  | _ => none

/-- Page 0, opcodes $F0 to $FF (30_encoding.md R177). -/
def page0RowF (n : Nat) (b1 : Byte) (w1 _w2 : Word) : Option Instr :=
  match n with
  | 0x0 => some (.subb (.imm b1))
  | 0x1 => some (.addb (.imm b1))
  | 0x2 => some (.sbcb (.imm b1))
  | 0x3 => some (.adcb (.imm b1))
  | 0x4 => some (.eorb (.imm b1))
  | 0x5 => some (.ldab (.imm b1))
  | 0x6 => some (.andb (.imm b1))
  | 0x7 => some (.orab (.imm b1))
  | 0x8 => some (.cmpb (.imm b1))
  | 0x9 => some (.bitb (.imm b1))
  | 0xA => some (.jsr (.ext20 (nib b1 ++ w1)))
  | 0xB => some (.rmac b1)
  | 0xC => some (.addd (.imm8 b1))
  | _ => none

/-- Page 1, opcodes $00 to $0F (30_encoding.md R177). -/
def page1Row0 (n : Nat) (w1 _w2 : Word) : Option Instr :=
  match n with
  | 0x0 => some (.com (.ind16 .x w1))
  | 0x1 => some (.dec (.ind16 .x w1))
  | 0x2 => some (.neg (.ind16 .x w1))
  | 0x3 => some (.inc (.ind16 .x w1))
  | 0x4 => some (.asl (.ind16 .x w1))
  | 0x5 => some (.clr (.ind16 .x w1))
  | 0x6 => some (.tst (.ind16 .x w1))
  | 0x8 => some (.bclr (hi w1) (.ind8 .x (lo w1)))
  | 0x9 => some (.bset (hi w1) (.ind8 .x (lo w1)))
  | 0xC => some (.rol (.ind16 .x w1))
  | 0xD => some (.asr (.ind16 .x w1))
  | 0xE => some (.ror (.ind16 .x w1))
  | 0xF => some (.lsr (.ind16 .x w1))
  | _ => none

/-- Page 1, opcodes $10 to $1F (30_encoding.md R177). -/
def page1Row1 (n : Nat) (w1 _w2 : Word) : Option Instr :=
  match n with
  | 0x0 => some (.com (.ind16 .y w1))
  | 0x1 => some (.dec (.ind16 .y w1))
  | 0x2 => some (.neg (.ind16 .y w1))
  | 0x3 => some (.inc (.ind16 .y w1))
  | 0x4 => some (.asl (.ind16 .y w1))
  | 0x5 => some (.clr (.ind16 .y w1))
  | 0x6 => some (.tst (.ind16 .y w1))
  | 0x8 => some (.bclr (hi w1) (.ind8 .y (lo w1)))
  | 0x9 => some (.bset (hi w1) (.ind8 .y (lo w1)))
  | 0xC => some (.rol (.ind16 .y w1))
  | 0xD => some (.asr (.ind16 .y w1))
  | 0xE => some (.ror (.ind16 .y w1))
  | 0xF => some (.lsr (.ind16 .y w1))
  | _ => none

/-- Page 1, opcodes $20 to $2F (30_encoding.md R177). -/
def page1Row2 (n : Nat) (w1 _w2 : Word) : Option Instr :=
  match n with
  | 0x0 => some (.com (.ind16 .z w1))
  | 0x1 => some (.dec (.ind16 .z w1))
  | 0x2 => some (.neg (.ind16 .z w1))
  | 0x3 => some (.inc (.ind16 .z w1))
  | 0x4 => some (.asl (.ind16 .z w1))
  | 0x5 => some (.clr (.ind16 .z w1))
  | 0x6 => some (.tst (.ind16 .z w1))
  | 0x8 => some (.bclr (hi w1) (.ind8 .z (lo w1)))
  | 0x9 => some (.bset (hi w1) (.ind8 .z (lo w1)))
  | 0xC => some (.rol (.ind16 .z w1))
  | 0xD => some (.asr (.ind16 .z w1))
  | 0xE => some (.ror (.ind16 .z w1))
  | 0xF => some (.lsr (.ind16 .z w1))
  | _ => none

/-- Page 1, opcodes $30 to $3F (30_encoding.md R177). -/
def page1Row3 (n : Nat) (w1 _w2 : Word) : Option Instr :=
  match n with
  | 0x0 => some (.com (.ext w1))
  | 0x1 => some (.dec (.ext w1))
  | 0x2 => some (.neg (.ext w1))
  | 0x3 => some (.inc (.ext w1))
  | 0x4 => some (.asl (.ext w1))
  | 0x5 => some (.clr (.ext w1))
  | 0x6 => some (.tst (.ext w1))
  | 0xC => some (.rol (.ext w1))
  | 0xD => some (.asr (.ext w1))
  | 0xE => some (.ror (.ext w1))
  | 0xF => some (.lsr (.ext w1))
  | _ => none

/-- Page 1, opcodes $40 to $4F (30_encoding.md R177). -/
def page1Row4 (n : Nat) (w1 _w2 : Word) : Option Instr :=
  match n with
  | 0x0 => some (.suba (.mem (.ind16 .x w1)))
  | 0x1 => some (.adda (.mem (.ind16 .x w1)))
  | 0x2 => some (.sbca (.mem (.ind16 .x w1)))
  | 0x3 => some (.adca (.mem (.ind16 .x w1)))
  | 0x4 => some (.eora (.mem (.ind16 .x w1)))
  | 0x5 => some (.ldaa (.mem (.ind16 .x w1)))
  | 0x6 => some (.anda (.mem (.ind16 .x w1)))
  | 0x7 => some (.oraa (.mem (.ind16 .x w1)))
  | 0x8 => some (.cmpa (.mem (.ind16 .x w1)))
  | 0x9 => some (.bita (.mem (.ind16 .x w1)))
  | 0xA => some (.staa (.ind16 .x w1))
  | 0xC => some (.cpx (.mem (.ind16 .x w1)))
  | 0xD => some (.cpy (.mem (.ind16 .x w1)))
  | 0xE => some (.cpz (.mem (.ind16 .x w1)))
  | 0xF => some (.cps (.mem (.ind16 .x w1)))
  | _ => none

/-- Page 1, opcodes $50 to $5F (30_encoding.md R177). -/
def page1Row5 (n : Nat) (w1 _w2 : Word) : Option Instr :=
  match n with
  | 0x0 => some (.suba (.mem (.ind16 .y w1)))
  | 0x1 => some (.adda (.mem (.ind16 .y w1)))
  | 0x2 => some (.sbca (.mem (.ind16 .y w1)))
  | 0x3 => some (.adca (.mem (.ind16 .y w1)))
  | 0x4 => some (.eora (.mem (.ind16 .y w1)))
  | 0x5 => some (.ldaa (.mem (.ind16 .y w1)))
  | 0x6 => some (.anda (.mem (.ind16 .y w1)))
  | 0x7 => some (.oraa (.mem (.ind16 .y w1)))
  | 0x8 => some (.cmpa (.mem (.ind16 .y w1)))
  | 0x9 => some (.bita (.mem (.ind16 .y w1)))
  | 0xA => some (.staa (.ind16 .y w1))
  | 0xC => some (.cpx (.mem (.ind16 .y w1)))
  | 0xD => some (.cpy (.mem (.ind16 .y w1)))
  | 0xE => some (.cpz (.mem (.ind16 .y w1)))
  | 0xF => some (.cps (.mem (.ind16 .y w1)))
  | _ => none

/-- Page 1, opcodes $60 to $6F (30_encoding.md R177). -/
def page1Row6 (n : Nat) (w1 _w2 : Word) : Option Instr :=
  match n with
  | 0x0 => some (.suba (.mem (.ind16 .z w1)))
  | 0x1 => some (.adda (.mem (.ind16 .z w1)))
  | 0x2 => some (.sbca (.mem (.ind16 .z w1)))
  | 0x3 => some (.adca (.mem (.ind16 .z w1)))
  | 0x4 => some (.eora (.mem (.ind16 .z w1)))
  | 0x5 => some (.ldaa (.mem (.ind16 .z w1)))
  | 0x6 => some (.anda (.mem (.ind16 .z w1)))
  | 0x7 => some (.oraa (.mem (.ind16 .z w1)))
  | 0x8 => some (.cmpa (.mem (.ind16 .z w1)))
  | 0x9 => some (.bita (.mem (.ind16 .z w1)))
  | 0xA => some (.staa (.ind16 .z w1))
  | 0xC => some (.cpx (.mem (.ind16 .z w1)))
  | 0xD => some (.cpy (.mem (.ind16 .z w1)))
  | 0xE => some (.cpz (.mem (.ind16 .z w1)))
  | 0xF => some (.cps (.mem (.ind16 .z w1)))
  | _ => none

/-- Page 1, opcodes $70 to $7F (30_encoding.md R177). -/
def page1Row7 (n : Nat) (w1 _w2 : Word) : Option Instr :=
  match n with
  | 0x0 => some (.suba (.mem (.ext w1)))
  | 0x1 => some (.adda (.mem (.ext w1)))
  | 0x2 => some (.sbca (.mem (.ext w1)))
  | 0x3 => some (.adca (.mem (.ext w1)))
  | 0x4 => some (.eora (.mem (.ext w1)))
  | 0x5 => some (.ldaa (.mem (.ext w1)))
  | 0x6 => some (.anda (.mem (.ext w1)))
  | 0x7 => some (.oraa (.mem (.ext w1)))
  | 0x8 => some (.cmpa (.mem (.ext w1)))
  | 0x9 => some (.bita (.mem (.ext w1)))
  | 0xA => some (.staa (.ext w1))
  | 0xC => some (.cpx (.mem (.ext w1)))
  | 0xD => some (.cpy (.mem (.ext w1)))
  | 0xE => some (.cpz (.mem (.ext w1)))
  | 0xF => some (.cps (.mem (.ext w1)))
  | _ => none

/-- Page 1, opcodes $80 to $8F (30_encoding.md R177). -/
def page1Row8 (n : Nat) (w1 _w2 : Word) : Option Instr :=
  match n with
  | 0xC => some (.stx (.ind16 .x w1))
  | 0xD => some (.sty (.ind16 .x w1))
  | 0xE => some (.stz (.ind16 .x w1))
  | 0xF => some (.sts (.ind16 .x w1))
  | _ => none

/-- Page 1, opcodes $90 to $9F (30_encoding.md R177). -/
def page1Row9 (n : Nat) (w1 _w2 : Word) : Option Instr :=
  match n with
  | 0xC => some (.stx (.ind16 .y w1))
  | 0xD => some (.sty (.ind16 .y w1))
  | 0xE => some (.stz (.ind16 .y w1))
  | 0xF => some (.sts (.ind16 .y w1))
  | _ => none

/-- Page 1, opcodes $A0 to $AF (30_encoding.md R177). -/
def page1RowA (n : Nat) (w1 _w2 : Word) : Option Instr :=
  match n with
  | 0xC => some (.stx (.ind16 .z w1))
  | 0xD => some (.sty (.ind16 .z w1))
  | 0xE => some (.stz (.ind16 .z w1))
  | 0xF => some (.sts (.ind16 .z w1))
  | _ => none

/-- Page 1, opcodes $B0 to $BF (30_encoding.md R177). -/
def page1RowB (n : Nat) (w1 _w2 : Word) : Option Instr :=
  match n with
  | 0xC => some (.stx (.ext w1))
  | 0xD => some (.sty (.ext w1))
  | 0xE => some (.stz (.ext w1))
  | 0xF => some (.sts (.ext w1))
  | _ => none

/-- Page 1, opcodes $C0 to $CF (30_encoding.md R177). -/
def page1RowC (n : Nat) (w1 _w2 : Word) : Option Instr :=
  match n with
  | 0x0 => some (.subb (.mem (.ind16 .x w1)))
  | 0x1 => some (.addb (.mem (.ind16 .x w1)))
  | 0x2 => some (.sbcb (.mem (.ind16 .x w1)))
  | 0x3 => some (.adcb (.mem (.ind16 .x w1)))
  | 0x4 => some (.eorb (.mem (.ind16 .x w1)))
  | 0x5 => some (.ldab (.mem (.ind16 .x w1)))
  | 0x6 => some (.andb (.mem (.ind16 .x w1)))
  | 0x7 => some (.orab (.mem (.ind16 .x w1)))
  | 0x8 => some (.cmpb (.mem (.ind16 .x w1)))
  | 0x9 => some (.bitb (.mem (.ind16 .x w1)))
  | 0xA => some (.stab (.ind16 .x w1))
  | 0xC => some (.ldx (.mem (.ind16 .x w1)))
  | 0xD => some (.ldy (.mem (.ind16 .x w1)))
  | 0xE => some (.ldz (.mem (.ind16 .x w1)))
  | 0xF => some (.lds (.mem (.ind16 .x w1)))
  | _ => none

/-- Page 1, opcodes $D0 to $DF (30_encoding.md R177). -/
def page1RowD (n : Nat) (w1 _w2 : Word) : Option Instr :=
  match n with
  | 0x0 => some (.subb (.mem (.ind16 .y w1)))
  | 0x1 => some (.addb (.mem (.ind16 .y w1)))
  | 0x2 => some (.sbcb (.mem (.ind16 .y w1)))
  | 0x3 => some (.adcb (.mem (.ind16 .y w1)))
  | 0x4 => some (.eorb (.mem (.ind16 .y w1)))
  | 0x5 => some (.ldab (.mem (.ind16 .y w1)))
  | 0x6 => some (.andb (.mem (.ind16 .y w1)))
  | 0x7 => some (.orab (.mem (.ind16 .y w1)))
  | 0x8 => some (.cmpb (.mem (.ind16 .y w1)))
  | 0x9 => some (.bitb (.mem (.ind16 .y w1)))
  | 0xA => some (.stab (.ind16 .y w1))
  | 0xC => some (.ldx (.mem (.ind16 .y w1)))
  | 0xD => some (.ldy (.mem (.ind16 .y w1)))
  | 0xE => some (.ldz (.mem (.ind16 .y w1)))
  | 0xF => some (.lds (.mem (.ind16 .y w1)))
  | _ => none

/-- Page 1, opcodes $E0 to $EF (30_encoding.md R177). -/
def page1RowE (n : Nat) (w1 _w2 : Word) : Option Instr :=
  match n with
  | 0x0 => some (.subb (.mem (.ind16 .z w1)))
  | 0x1 => some (.addb (.mem (.ind16 .z w1)))
  | 0x2 => some (.sbcb (.mem (.ind16 .z w1)))
  | 0x3 => some (.adcb (.mem (.ind16 .z w1)))
  | 0x4 => some (.eorb (.mem (.ind16 .z w1)))
  | 0x5 => some (.ldab (.mem (.ind16 .z w1)))
  | 0x6 => some (.andb (.mem (.ind16 .z w1)))
  | 0x7 => some (.orab (.mem (.ind16 .z w1)))
  | 0x8 => some (.cmpb (.mem (.ind16 .z w1)))
  | 0x9 => some (.bitb (.mem (.ind16 .z w1)))
  | 0xA => some (.stab (.ind16 .z w1))
  | 0xC => some (.ldx (.mem (.ind16 .z w1)))
  | 0xD => some (.ldy (.mem (.ind16 .z w1)))
  | 0xE => some (.ldz (.mem (.ind16 .z w1)))
  | 0xF => some (.lds (.mem (.ind16 .z w1)))
  | _ => none

/-- Page 1, opcodes $F0 to $FF (30_encoding.md R177). -/
def page1RowF (n : Nat) (w1 _w2 : Word) : Option Instr :=
  match n with
  | 0x0 => some (.subb (.mem (.ext w1)))
  | 0x1 => some (.addb (.mem (.ext w1)))
  | 0x2 => some (.sbcb (.mem (.ext w1)))
  | 0x3 => some (.adcb (.mem (.ext w1)))
  | 0x4 => some (.eorb (.mem (.ext w1)))
  | 0x5 => some (.ldab (.mem (.ext w1)))
  | 0x6 => some (.andb (.mem (.ext w1)))
  | 0x7 => some (.orab (.mem (.ext w1)))
  | 0x8 => some (.cmpb (.mem (.ext w1)))
  | 0x9 => some (.bitb (.mem (.ext w1)))
  | 0xA => some (.stab (.ext w1))
  | 0xC => some (.ldx (.mem (.ext w1)))
  | 0xD => some (.ldy (.mem (.ext w1)))
  | 0xE => some (.ldz (.mem (.ext w1)))
  | 0xF => some (.lds (.mem (.ext w1)))
  | _ => none

/-- Page 2, opcodes $00 to $0F (30_encoding.md R177). -/
def page2Row0 (n : Nat) (w1 w2 : Word) : Option Instr :=
  match n with
  | 0x0 => some (.comw (.ind16 .x w1))
  | 0x1 => some (.decw (.ind16 .x w1))
  | 0x2 => some (.negw (.ind16 .x w1))
  | 0x3 => some (.incw (.ind16 .x w1))
  | 0x4 => some (.aslw (.ind16 .x w1))
  | 0x5 => some (.clrw (.ind16 .x w1))
  | 0x6 => some (.tstw (.ind16 .x w1))
  | 0x8 => some (.bclrw w2 (.ind16 .x w1))
  | 0x9 => some (.bsetw w2 (.ind16 .x w1))
  | 0xC => some (.rolw (.ind16 .x w1))
  | 0xD => some (.asrw (.ind16 .x w1))
  | 0xE => some (.rorw (.ind16 .x w1))
  | 0xF => some (.lsrw (.ind16 .x w1))
  | _ => none

/-- Page 2, opcodes $10 to $1F (30_encoding.md R177). -/
def page2Row1 (n : Nat) (w1 w2 : Word) : Option Instr :=
  match n with
  | 0x0 => some (.comw (.ind16 .y w1))
  | 0x1 => some (.decw (.ind16 .y w1))
  | 0x2 => some (.negw (.ind16 .y w1))
  | 0x3 => some (.incw (.ind16 .y w1))
  | 0x4 => some (.aslw (.ind16 .y w1))
  | 0x5 => some (.clrw (.ind16 .y w1))
  | 0x6 => some (.tstw (.ind16 .y w1))
  | 0x8 => some (.bclrw w2 (.ind16 .y w1))
  | 0x9 => some (.bsetw w2 (.ind16 .y w1))
  | 0xC => some (.rolw (.ind16 .y w1))
  | 0xD => some (.asrw (.ind16 .y w1))
  | 0xE => some (.rorw (.ind16 .y w1))
  | 0xF => some (.lsrw (.ind16 .y w1))
  | _ => none

/-- Page 2, opcodes $20 to $2F (30_encoding.md R177). -/
def page2Row2 (n : Nat) (w1 w2 : Word) : Option Instr :=
  match n with
  | 0x0 => some (.comw (.ind16 .z w1))
  | 0x1 => some (.decw (.ind16 .z w1))
  | 0x2 => some (.negw (.ind16 .z w1))
  | 0x3 => some (.incw (.ind16 .z w1))
  | 0x4 => some (.aslw (.ind16 .z w1))
  | 0x5 => some (.clrw (.ind16 .z w1))
  | 0x6 => some (.tstw (.ind16 .z w1))
  | 0x8 => some (.bclrw w2 (.ind16 .z w1))
  | 0x9 => some (.bsetw w2 (.ind16 .z w1))
  | 0xC => some (.rolw (.ind16 .z w1))
  | 0xD => some (.asrw (.ind16 .z w1))
  | 0xE => some (.rorw (.ind16 .z w1))
  | 0xF => some (.lsrw (.ind16 .z w1))
  | _ => none

/-- Page 2, opcodes $30 to $3F (30_encoding.md R177). -/
def page2Row3 (n : Nat) (w1 w2 : Word) : Option Instr :=
  match n with
  | 0x0 => some (.comw (.ext w1))
  | 0x1 => some (.decw (.ext w1))
  | 0x2 => some (.negw (.ext w1))
  | 0x3 => some (.incw (.ext w1))
  | 0x4 => some (.aslw (.ext w1))
  | 0x5 => some (.clrw (.ext w1))
  | 0x6 => some (.tstw (.ext w1))
  | 0x8 => some (.bclrw w2 (.ext w1))
  | 0x9 => some (.bsetw w2 (.ext w1))
  | 0xC => some (.rolw (.ext w1))
  | 0xD => some (.asrw (.ext w1))
  | 0xE => some (.rorw (.ext w1))
  | 0xF => some (.lsrw (.ext w1))
  | _ => none

/-- Page 2, opcodes $40 to $4F (30_encoding.md R177). -/
def page2Row4 (n : Nat) (_w1 _w2 : Word) : Option Instr :=
  match n with
  | 0x0 => some (.suba (.mem (.eoff .x)))
  | 0x1 => some (.adda (.mem (.eoff .x)))
  | 0x2 => some (.sbca (.mem (.eoff .x)))
  | 0x3 => some (.adca (.mem (.eoff .x)))
  | 0x4 => some (.eora (.mem (.eoff .x)))
  | 0x5 => some (.ldaa (.mem (.eoff .x)))
  | 0x6 => some (.anda (.mem (.eoff .x)))
  | 0x7 => some (.oraa (.mem (.eoff .x)))
  | 0x8 => some (.cmpa (.mem (.eoff .x)))
  | 0x9 => some (.bita (.mem (.eoff .x)))
  | 0xA => some (.staa (.eoff .x))
  | 0xC => some (.nop)
  | 0xD => some (.tyx)
  | 0xE => some (.tzx)
  | 0xF => some (.tsx)
  | _ => none

/-- Page 2, opcodes $50 to $5F (30_encoding.md R177). -/
def page2Row5 (n : Nat) (_w1 _w2 : Word) : Option Instr :=
  match n with
  | 0x0 => some (.suba (.mem (.eoff .y)))
  | 0x1 => some (.adda (.mem (.eoff .y)))
  | 0x2 => some (.sbca (.mem (.eoff .y)))
  | 0x3 => some (.adca (.mem (.eoff .y)))
  | 0x4 => some (.eora (.mem (.eoff .y)))
  | 0x5 => some (.ldaa (.mem (.eoff .y)))
  | 0x6 => some (.anda (.mem (.eoff .y)))
  | 0x7 => some (.oraa (.mem (.eoff .y)))
  | 0x8 => some (.cmpa (.mem (.eoff .y)))
  | 0x9 => some (.bita (.mem (.eoff .y)))
  | 0xA => some (.staa (.eoff .y))
  | 0xC => some (.txy)
  | 0xE => some (.tzy)
  | 0xF => some (.tsy)
  | _ => none

/-- Page 2, opcodes $60 to $6F (30_encoding.md R177). -/
def page2Row6 (n : Nat) (_w1 _w2 : Word) : Option Instr :=
  match n with
  | 0x0 => some (.suba (.mem (.eoff .z)))
  | 0x1 => some (.adda (.mem (.eoff .z)))
  | 0x2 => some (.sbca (.mem (.eoff .z)))
  | 0x3 => some (.adca (.mem (.eoff .z)))
  | 0x4 => some (.eora (.mem (.eoff .z)))
  | 0x5 => some (.ldaa (.mem (.eoff .z)))
  | 0x6 => some (.anda (.mem (.eoff .z)))
  | 0x7 => some (.oraa (.mem (.eoff .z)))
  | 0x8 => some (.cmpa (.mem (.eoff .z)))
  | 0x9 => some (.bita (.mem (.eoff .z)))
  | 0xA => some (.staa (.eoff .z))
  | 0xC => some (.txz)
  | 0xD => some (.tyz)
  | 0xF => some (.tsz)
  | _ => none

/-- Page 2, opcodes $70 to $7F (30_encoding.md R177). -/
def page2Row7 (n : Nat) (w1 _w2 : Word) : Option Instr :=
  match n with
  | 0x0 => some (.come)
  | 0x1 => some (.lded w1)
  | 0x2 => some (.nege)
  | 0x3 => some (.sted w1)
  | 0x4 => some (.asle)
  | 0x5 => some (.clre)
  | 0x6 => some (.tste)
  | 0x7 => some (.rti)
  | 0x8 => some (.ade)
  | 0x9 => some (.sde)
  | 0xA => some (.xgde)
  | 0xB => some (.tde)
  | 0xC => some (.role)
  | 0xD => some (.asre)
  | 0xE => some (.rore)
  | 0xF => some (.lsre)
  | _ => none

/-- Page 2, opcodes $80 to $8F (30_encoding.md R177). -/
def page2Row8 (n : Nat) (_w1 _w2 : Word) : Option Instr :=
  match n with
  | 0x0 => some (.subd (.mem (.eoff .x)))
  | 0x1 => some (.addd (.mem (.eoff .x)))
  | 0x2 => some (.sbcd (.mem (.eoff .x)))
  | 0x3 => some (.adcd (.mem (.eoff .x)))
  | 0x4 => some (.eord (.mem (.eoff .x)))
  | 0x5 => some (.ldd (.mem (.eoff .x)))
  | 0x6 => some (.andd (.mem (.eoff .x)))
  | 0x7 => some (.ord (.mem (.eoff .x)))
  | 0x8 => some (.cpd (.mem (.eoff .x)))
  | 0xA => some (.std (.eoff .x))
  | _ => none

/-- Page 2, opcodes $90 to $9F (30_encoding.md R177). -/
def page2Row9 (n : Nat) (_w1 _w2 : Word) : Option Instr :=
  match n with
  | 0x0 => some (.subd (.mem (.eoff .y)))
  | 0x1 => some (.addd (.mem (.eoff .y)))
  | 0x2 => some (.sbcd (.mem (.eoff .y)))
  | 0x3 => some (.adcd (.mem (.eoff .y)))
  | 0x4 => some (.eord (.mem (.eoff .y)))
  | 0x5 => some (.ldd (.mem (.eoff .y)))
  | 0x6 => some (.andd (.mem (.eoff .y)))
  | 0x7 => some (.ord (.mem (.eoff .y)))
  | 0x8 => some (.cpd (.mem (.eoff .y)))
  | 0xA => some (.std (.eoff .y))
  | _ => none

/-- Page 2, opcodes $A0 to $AF (30_encoding.md R177). -/
def page2RowA (n : Nat) (_w1 _w2 : Word) : Option Instr :=
  match n with
  | 0x0 => some (.subd (.mem (.eoff .z)))
  | 0x1 => some (.addd (.mem (.eoff .z)))
  | 0x2 => some (.sbcd (.mem (.eoff .z)))
  | 0x3 => some (.adcd (.mem (.eoff .z)))
  | 0x4 => some (.eord (.mem (.eoff .z)))
  | 0x5 => some (.ldd (.mem (.eoff .z)))
  | 0x6 => some (.andd (.mem (.eoff .z)))
  | 0x7 => some (.ord (.mem (.eoff .z)))
  | 0x8 => some (.cpd (.mem (.eoff .z)))
  | 0xA => some (.std (.eoff .z))
  | _ => none

/-- Page 2, opcodes $B0 to $BF (30_encoding.md R177). -/
def page2RowB (n : Nat) (_w1 _w2 : Word) : Option Instr :=
  match n with
  | 0x0 => some (.ldhi)
  | 0x1 => some (.tedm)
  | 0x2 => some (.tem)
  | 0x3 => some (.tmxed)
  | 0x4 => some (.tmer)
  | 0x5 => some (.tmet)
  | 0x6 => some (.aslm)
  | 0x7 => some (.clrm)
  | 0x8 => some (.pshmac)
  | 0x9 => some (.pulmac)
  | 0xA => some (.asrm)
  | 0xB => some (.tekb)
  | _ => none

/-- Page 2, opcodes $C0 to $CF (30_encoding.md R177). -/
def page2RowC (n : Nat) (_w1 _w2 : Word) : Option Instr :=
  match n with
  | 0x0 => some (.subb (.mem (.eoff .x)))
  | 0x1 => some (.addb (.mem (.eoff .x)))
  | 0x2 => some (.sbcb (.mem (.eoff .x)))
  | 0x3 => some (.adcb (.mem (.eoff .x)))
  | 0x4 => some (.eorb (.mem (.eoff .x)))
  | 0x5 => some (.ldab (.mem (.eoff .x)))
  | 0x6 => some (.andb (.mem (.eoff .x)))
  | 0x7 => some (.orab (.mem (.eoff .x)))
  | 0x8 => some (.cmpb (.mem (.eoff .x)))
  | 0x9 => some (.bitb (.mem (.eoff .x)))
  | 0xA => some (.stab (.eoff .x))
  | _ => none

/-- Page 2, opcodes $D0 to $DF (30_encoding.md R177). -/
def page2RowD (n : Nat) (_w1 _w2 : Word) : Option Instr :=
  match n with
  | 0x0 => some (.subb (.mem (.eoff .y)))
  | 0x1 => some (.addb (.mem (.eoff .y)))
  | 0x2 => some (.sbcb (.mem (.eoff .y)))
  | 0x3 => some (.adcb (.mem (.eoff .y)))
  | 0x4 => some (.eorb (.mem (.eoff .y)))
  | 0x5 => some (.ldab (.mem (.eoff .y)))
  | 0x6 => some (.andb (.mem (.eoff .y)))
  | 0x7 => some (.orab (.mem (.eoff .y)))
  | 0x8 => some (.cmpb (.mem (.eoff .y)))
  | 0x9 => some (.bitb (.mem (.eoff .y)))
  | 0xA => some (.stab (.eoff .y))
  | _ => none

/-- Page 2, opcodes $E0 to $EF (30_encoding.md R177). -/
def page2RowE (n : Nat) (_w1 _w2 : Word) : Option Instr :=
  match n with
  | 0x0 => some (.subb (.mem (.eoff .z)))
  | 0x1 => some (.addb (.mem (.eoff .z)))
  | 0x2 => some (.sbcb (.mem (.eoff .z)))
  | 0x3 => some (.adcb (.mem (.eoff .z)))
  | 0x4 => some (.eorb (.mem (.eoff .z)))
  | 0x5 => some (.ldab (.mem (.eoff .z)))
  | 0x6 => some (.andb (.mem (.eoff .z)))
  | 0x7 => some (.orab (.mem (.eoff .z)))
  | 0x8 => some (.cmpb (.mem (.eoff .z)))
  | 0x9 => some (.bitb (.mem (.eoff .z)))
  | 0xA => some (.stab (.eoff .z))
  | _ => none

/-- Page 2, opcodes $F0 to $FF (30_encoding.md R177). -/
def page2RowF (n : Nat) (w1 _w2 : Word) : Option Instr :=
  match n with
  | 0x0 => some (.comd)
  | 0x1 => some (.lpstop)
  | 0x2 => some (.negd)
  | 0x3 => some (.wai)
  | 0x4 => some (.asld)
  | 0x5 => some (.clrd)
  | 0x6 => some (.tstd)
  | 0x7 => some (.rts)
  | 0x8 => some (.sxt)
  | 0x9 => some (.lbsr w1)
  | 0xA => some (.tbek)
  | 0xB => some (.ted)
  | 0xC => some (.rold)
  | 0xD => some (.asrd)
  | 0xE => some (.rord)
  | 0xF => some (.lsrd)
  | _ => none

/-- Page 3, opcodes $00 to $0F (30_encoding.md R177). -/
def page3Row0 (n : Nat) (_w1 _w2 : Word) : Option Instr :=
  match n with
  | 0x0 => some (.coma)
  | 0x1 => some (.deca)
  | 0x2 => some (.nega)
  | 0x3 => some (.inca)
  | 0x4 => some (.asla)
  | 0x5 => some (.clra)
  | 0x6 => some (.tsta)
  | 0x7 => some (.tba)
  | 0x8 => some (.psha)
  | 0x9 => some (.pula)
  | 0xA => some (.sba)
  | 0xB => some (.aba)
  | 0xC => some (.rola)
  | 0xD => some (.asra)
  | 0xE => some (.rora)
  | 0xF => some (.lsra)
  | _ => none

/-- Page 3, opcodes $10 to $1F (30_encoding.md R177). -/
def page3Row1 (n : Nat) (_w1 _w2 : Word) : Option Instr :=
  match n with
  | 0x0 => some (.comb)
  | 0x1 => some (.decb)
  | 0x2 => some (.negb)
  | 0x3 => some (.incb)
  | 0x4 => some (.aslb)
  | 0x5 => some (.clrb)
  | 0x6 => some (.tstb)
  | 0x7 => some (.tab)
  | 0x8 => some (.pshb)
  | 0x9 => some (.pulb)
  | 0xA => some (.xgab)
  | 0xB => some (.cba)
  | 0xC => some (.rolb)
  | 0xD => some (.asrb)
  | 0xE => some (.rorb)
  | 0xF => some (.lsrb)
  | _ => none

/-- Page 3, opcodes $20 to $2F (30_encoding.md R177). -/
def page3Row2 (n : Nat) (_w1 _w2 : Word) : Option Instr :=
  match n with
  | 0x0 => some (.swi)
  | 0x1 => some (.daa)
  | 0x2 => some (.ace)
  | 0x3 => some (.aced)
  | 0x4 => some (.mul)
  | 0x5 => some (.emul)
  | 0x6 => some (.emuls)
  | 0x7 => some (.fmuls)
  | 0x8 => some (.ediv)
  | 0x9 => some (.edivs)
  | 0xA => some (.idiv)
  | 0xB => some (.fdiv)
  | 0xC => some (.tpd)
  | 0xD => some (.tdp)
  | 0xF => some (.tdmsk)
  | _ => none

/-- Page 3, opcodes $30 to $3F (30_encoding.md R177). -/
def page3Row3 (n : Nat) (w1 _w2 : Word) : Option Instr :=
  match n with
  | 0x0 => some (.sube (.imm16 w1))
  | 0x1 => some (.adde (.imm16 w1))
  | 0x2 => some (.sbce (.imm16 w1))
  | 0x3 => some (.adce (.imm16 w1))
  | 0x4 => some (.eore (.imm16 w1))
  | 0x5 => some (.lde (.imm16 w1))
  | 0x6 => some (.ande (.imm16 w1))
  | 0x7 => some (.ore (.imm16 w1))
  | 0x8 => some (.cpe (.imm16 w1))
  | 0xA => some (.andp w1)
  | 0xB => some (.orp w1)
  | 0xC => some (.aix (.imm16 w1))
  | 0xD => some (.aiy (.imm16 w1))
  | 0xE => some (.aiz (.imm16 w1))
  | 0xF => some (.ais (.imm16 w1))
  | _ => none

/-- Page 3, opcodes $40 to $4F (30_encoding.md R177). -/
def page3Row4 (n : Nat) (w1 _w2 : Word) : Option Instr :=
  match n with
  | 0x0 => some (.sube (.mem (.ind16 .x w1)))
  | 0x1 => some (.adde (.mem (.ind16 .x w1)))
  | 0x2 => some (.sbce (.mem (.ind16 .x w1)))
  | 0x3 => some (.adce (.mem (.ind16 .x w1)))
  | 0x4 => some (.eore (.mem (.ind16 .x w1)))
  | 0x5 => some (.lde (.mem (.ind16 .x w1)))
  | 0x6 => some (.ande (.mem (.ind16 .x w1)))
  | 0x7 => some (.ore (.mem (.ind16 .x w1)))
  | 0x8 => some (.cpe (.mem (.ind16 .x w1)))
  | 0xA => some (.ste (.ind16 .x w1))
  | 0xC => some (.xgex)
  | 0xD => some (.aex)
  | 0xE => some (.txs)
  | 0xF => some (.abx)
  | _ => none

/-- Page 3, opcodes $50 to $5F (30_encoding.md R177). -/
def page3Row5 (n : Nat) (w1 _w2 : Word) : Option Instr :=
  match n with
  | 0x0 => some (.sube (.mem (.ind16 .y w1)))
  | 0x1 => some (.adde (.mem (.ind16 .y w1)))
  | 0x2 => some (.sbce (.mem (.ind16 .y w1)))
  | 0x3 => some (.adce (.mem (.ind16 .y w1)))
  | 0x4 => some (.eore (.mem (.ind16 .y w1)))
  | 0x5 => some (.lde (.mem (.ind16 .y w1)))
  | 0x6 => some (.ande (.mem (.ind16 .y w1)))
  | 0x7 => some (.ore (.mem (.ind16 .y w1)))
  | 0x8 => some (.cpe (.mem (.ind16 .y w1)))
  | 0xA => some (.ste (.ind16 .y w1))
  | 0xC => some (.xgey)
  | 0xD => some (.aey)
  | 0xE => some (.tys)
  | 0xF => some (.aby)
  | _ => none

/-- Page 3, opcodes $60 to $6F (30_encoding.md R177). -/
def page3Row6 (n : Nat) (w1 _w2 : Word) : Option Instr :=
  match n with
  | 0x0 => some (.sube (.mem (.ind16 .z w1)))
  | 0x1 => some (.adde (.mem (.ind16 .z w1)))
  | 0x2 => some (.sbce (.mem (.ind16 .z w1)))
  | 0x3 => some (.adce (.mem (.ind16 .z w1)))
  | 0x4 => some (.eore (.mem (.ind16 .z w1)))
  | 0x5 => some (.lde (.mem (.ind16 .z w1)))
  | 0x6 => some (.ande (.mem (.ind16 .z w1)))
  | 0x7 => some (.ore (.mem (.ind16 .z w1)))
  | 0x8 => some (.cpe (.mem (.ind16 .z w1)))
  | 0xA => some (.ste (.ind16 .z w1))
  | 0xC => some (.xgez)
  | 0xD => some (.aez)
  | 0xE => some (.tzs)
  | 0xF => some (.abz)
  | _ => none

/-- Page 3, opcodes $70 to $7F (30_encoding.md R177). -/
def page3Row7 (n : Nat) (w1 _w2 : Word) : Option Instr :=
  match n with
  | 0x0 => some (.sube (.mem (.ext w1)))
  | 0x1 => some (.adde (.mem (.ext w1)))
  | 0x2 => some (.sbce (.mem (.ext w1)))
  | 0x3 => some (.adce (.mem (.ext w1)))
  | 0x4 => some (.eore (.mem (.ext w1)))
  | 0x5 => some (.lde (.mem (.ext w1)))
  | 0x6 => some (.ande (.mem (.ext w1)))
  | 0x7 => some (.ore (.mem (.ext w1)))
  | 0x8 => some (.cpe (.mem (.ext w1)))
  | 0xA => some (.ste (.ext w1))
  | 0xC => some (.cpx (.imm16 w1))
  | 0xD => some (.cpy (.imm16 w1))
  | 0xE => some (.cpz (.imm16 w1))
  | 0xF => some (.cps (.imm16 w1))
  | _ => none

/-- Page 3, opcodes $80 to $8F (30_encoding.md R177). -/
def page3Row8 (n : Nat) (w1 _w2 : Word) : Option Instr :=
  match n with
  | 0x0 => some (.lbra w1)
  | 0x1 => some (.lbrn w1)
  | 0x2 => some (.lbhi w1)
  | 0x3 => some (.lbls w1)
  | 0x4 => some (.lbcc w1)
  | 0x5 => some (.lbcs w1)
  | 0x6 => some (.lbne w1)
  | 0x7 => some (.lbeq w1)
  | 0x8 => some (.lbvc w1)
  | 0x9 => some (.lbvs w1)
  | 0xA => some (.lbpl w1)
  | 0xB => some (.lbmi w1)
  | 0xC => some (.lbge w1)
  | 0xD => some (.lblt w1)
  | 0xE => some (.lbgt w1)
  | 0xF => some (.lble w1)
  | _ => none

/-- Page 3, opcodes $90 to $9F (30_encoding.md R177). -/
def page3Row9 (n : Nat) (w1 _w2 : Word) : Option Instr :=
  match n with
  | 0x0 => some (.lbmv w1)
  | 0x1 => some (.lbev w1)
  | 0xC => some (.tbxk)
  | 0xD => some (.tbyk)
  | 0xE => some (.tbzk)
  | 0xF => some (.tbsk)
  | _ => none

/-- Page 3, opcodes $A0 to $AF (30_encoding.md R177). -/
def page3RowA (n : Nat) (_w1 _w2 : Word) : Option Instr :=
  match n with
  | 0x6 => some (.bgnd)
  | 0xC => some (.txkb)
  | 0xD => some (.tykb)
  | 0xE => some (.tzkb)
  | 0xF => some (.tskb)
  | _ => none

/-- Page 3, opcodes $B0 to $BF (30_encoding.md R177). -/
def page3RowB (n : Nat) (w1 _w2 : Word) : Option Instr :=
  match n with
  | 0x0 => some (.subd (.imm16 w1))
  | 0x1 => some (.addd (.imm16 w1))
  | 0x2 => some (.sbcd (.imm16 w1))
  | 0x3 => some (.adcd (.imm16 w1))
  | 0x4 => some (.eord (.imm16 w1))
  | 0x5 => some (.ldd (.imm16 w1))
  | 0x6 => some (.andd (.imm16 w1))
  | 0x7 => some (.ord (.imm16 w1))
  | 0x8 => some (.cpd (.imm16 w1))
  | 0xC => some (.ldx (.imm16 w1))
  | 0xD => some (.ldy (.imm16 w1))
  | 0xE => some (.ldz (.imm16 w1))
  | 0xF => some (.lds (.imm16 w1))
  | _ => none

/-- Page 3, opcodes $C0 to $CF (30_encoding.md R177). -/
def page3RowC (n : Nat) (w1 _w2 : Word) : Option Instr :=
  match n with
  | 0x0 => some (.subd (.mem (.ind16 .x w1)))
  | 0x1 => some (.addd (.mem (.ind16 .x w1)))
  | 0x2 => some (.sbcd (.mem (.ind16 .x w1)))
  | 0x3 => some (.adcd (.mem (.ind16 .x w1)))
  | 0x4 => some (.eord (.mem (.ind16 .x w1)))
  | 0x5 => some (.ldd (.mem (.ind16 .x w1)))
  | 0x6 => some (.andd (.mem (.ind16 .x w1)))
  | 0x7 => some (.ord (.mem (.ind16 .x w1)))
  | 0x8 => some (.cpd (.mem (.ind16 .x w1)))
  | 0xA => some (.std (.ind16 .x w1))
  | 0xC => some (.xgdx)
  | 0xD => some (.adx)
  | _ => none

/-- Page 3, opcodes $D0 to $DF (30_encoding.md R177). -/
def page3RowD (n : Nat) (w1 _w2 : Word) : Option Instr :=
  match n with
  | 0x0 => some (.subd (.mem (.ind16 .y w1)))
  | 0x1 => some (.addd (.mem (.ind16 .y w1)))
  | 0x2 => some (.sbcd (.mem (.ind16 .y w1)))
  | 0x3 => some (.adcd (.mem (.ind16 .y w1)))
  | 0x4 => some (.eord (.mem (.ind16 .y w1)))
  | 0x5 => some (.ldd (.mem (.ind16 .y w1)))
  | 0x6 => some (.andd (.mem (.ind16 .y w1)))
  | 0x7 => some (.ord (.mem (.ind16 .y w1)))
  | 0x8 => some (.cpd (.mem (.ind16 .y w1)))
  | 0xA => some (.std (.ind16 .y w1))
  | 0xC => some (.xgdy)
  | 0xD => some (.ady)
  | _ => none

/-- Page 3, opcodes $E0 to $EF (30_encoding.md R177). -/
def page3RowE (n : Nat) (w1 _w2 : Word) : Option Instr :=
  match n with
  | 0x0 => some (.subd (.mem (.ind16 .z w1)))
  | 0x1 => some (.addd (.mem (.ind16 .z w1)))
  | 0x2 => some (.sbcd (.mem (.ind16 .z w1)))
  | 0x3 => some (.adcd (.mem (.ind16 .z w1)))
  | 0x4 => some (.eord (.mem (.ind16 .z w1)))
  | 0x5 => some (.ldd (.mem (.ind16 .z w1)))
  | 0x6 => some (.andd (.mem (.ind16 .z w1)))
  | 0x7 => some (.ord (.mem (.ind16 .z w1)))
  | 0x8 => some (.cpd (.mem (.ind16 .z w1)))
  | 0xA => some (.std (.ind16 .z w1))
  | 0xC => some (.xgdz)
  | 0xD => some (.adz)
  | _ => none

/-- Page 3, opcodes $F0 to $FF (30_encoding.md R177). -/
def page3RowF (n : Nat) (w1 w2 : Word) : Option Instr :=
  match n with
  | 0x0 => some (.subd (.mem (.ext w1)))
  | 0x1 => some (.addd (.mem (.ext w1)))
  | 0x2 => some (.sbcd (.mem (.ext w1)))
  | 0x3 => some (.adcd (.mem (.ext w1)))
  | 0x4 => some (.eord (.mem (.ext w1)))
  | 0x5 => some (.ldd (.mem (.ext w1)))
  | 0x6 => some (.andd (.mem (.ext w1)))
  | 0x7 => some (.ord (.mem (.ext w1)))
  | 0x8 => some (.cpd (.mem (.ext w1)))
  | 0xA => some (.std (.ext w1))
  | 0xC => some (.tpa)
  | 0xD => some (.tap)
  | 0xE => some (.movb (.extToExt w1 w2))
  | 0xF => some (.movw (.extToExt w1 w2))
  | _ => none

/-- Opcode page 0 (30_encoding.md R151, R156). -/
def page0 (op : Byte) (b1 : Byte) (w1 w2 : Word) : Option Instr :=
  match op.toNat / 16 with
  | 0x0 => page0Row0 (op.toNat % 16) b1 w1 w2
  | 0x1 => page0Row1 (op.toNat % 16) b1 w1 w2
  | 0x2 => page0Row2 (op.toNat % 16) b1 w1 w2
  | 0x3 => page0Row3 (op.toNat % 16) b1 w1 w2
  | 0x4 => page0Row4 (op.toNat % 16) b1 w1 w2
  | 0x5 => page0Row5 (op.toNat % 16) b1 w1 w2
  | 0x6 => page0Row6 (op.toNat % 16) b1 w1 w2
  | 0x7 => page0Row7 (op.toNat % 16) b1 w1 w2
  | 0x8 => page0Row8 (op.toNat % 16) b1 w1 w2
  | 0x9 => page0Row9 (op.toNat % 16) b1 w1 w2
  | 0xA => page0RowA (op.toNat % 16) b1 w1 w2
  | 0xB => page0RowB (op.toNat % 16) b1 w1 w2
  | 0xC => page0RowC (op.toNat % 16) b1 w1 w2
  | 0xD => page0RowD (op.toNat % 16) b1 w1 w2
  | 0xE => page0RowE (op.toNat % 16) b1 w1 w2
  | 0xF => page0RowF (op.toNat % 16) b1 w1 w2
  | _ => none

/-- Opcode page 1 (30_encoding.md R151, R156). -/
def page1 (op : Byte) (w1 w2 : Word) : Option Instr :=
  match op.toNat / 16 with
  | 0x0 => page1Row0 (op.toNat % 16) w1 w2
  | 0x1 => page1Row1 (op.toNat % 16) w1 w2
  | 0x2 => page1Row2 (op.toNat % 16) w1 w2
  | 0x3 => page1Row3 (op.toNat % 16) w1 w2
  | 0x4 => page1Row4 (op.toNat % 16) w1 w2
  | 0x5 => page1Row5 (op.toNat % 16) w1 w2
  | 0x6 => page1Row6 (op.toNat % 16) w1 w2
  | 0x7 => page1Row7 (op.toNat % 16) w1 w2
  | 0x8 => page1Row8 (op.toNat % 16) w1 w2
  | 0x9 => page1Row9 (op.toNat % 16) w1 w2
  | 0xA => page1RowA (op.toNat % 16) w1 w2
  | 0xB => page1RowB (op.toNat % 16) w1 w2
  | 0xC => page1RowC (op.toNat % 16) w1 w2
  | 0xD => page1RowD (op.toNat % 16) w1 w2
  | 0xE => page1RowE (op.toNat % 16) w1 w2
  | 0xF => page1RowF (op.toNat % 16) w1 w2
  | _ => none

/-- Opcode page 2 (30_encoding.md R151, R156). -/
def page2 (op : Byte) (w1 w2 : Word) : Option Instr :=
  match op.toNat / 16 with
  | 0x0 => page2Row0 (op.toNat % 16) w1 w2
  | 0x1 => page2Row1 (op.toNat % 16) w1 w2
  | 0x2 => page2Row2 (op.toNat % 16) w1 w2
  | 0x3 => page2Row3 (op.toNat % 16) w1 w2
  | 0x4 => page2Row4 (op.toNat % 16) w1 w2
  | 0x5 => page2Row5 (op.toNat % 16) w1 w2
  | 0x6 => page2Row6 (op.toNat % 16) w1 w2
  | 0x7 => page2Row7 (op.toNat % 16) w1 w2
  | 0x8 => page2Row8 (op.toNat % 16) w1 w2
  | 0x9 => page2Row9 (op.toNat % 16) w1 w2
  | 0xA => page2RowA (op.toNat % 16) w1 w2
  | 0xB => page2RowB (op.toNat % 16) w1 w2
  | 0xC => page2RowC (op.toNat % 16) w1 w2
  | 0xD => page2RowD (op.toNat % 16) w1 w2
  | 0xE => page2RowE (op.toNat % 16) w1 w2
  | 0xF => page2RowF (op.toNat % 16) w1 w2
  | _ => none

/-- Opcode page 3 (30_encoding.md R151, R156). -/
def page3 (op : Byte) (w1 w2 : Word) : Option Instr :=
  match op.toNat / 16 with
  | 0x0 => page3Row0 (op.toNat % 16) w1 w2
  | 0x1 => page3Row1 (op.toNat % 16) w1 w2
  | 0x2 => page3Row2 (op.toNat % 16) w1 w2
  | 0x3 => page3Row3 (op.toNat % 16) w1 w2
  | 0x4 => page3Row4 (op.toNat % 16) w1 w2
  | 0x5 => page3Row5 (op.toNat % 16) w1 w2
  | 0x6 => page3Row6 (op.toNat % 16) w1 w2
  | 0x7 => page3Row7 (op.toNat % 16) w1 w2
  | 0x8 => page3Row8 (op.toNat % 16) w1 w2
  | 0x9 => page3Row9 (op.toNat % 16) w1 w2
  | 0xA => page3RowA (op.toNat % 16) w1 w2
  | 0xB => page3RowB (op.toNat % 16) w1 w2
  | 0xC => page3RowC (op.toNat % 16) w1 w2
  | 0xD => page3RowD (op.toNat % 16) w1 w2
  | 0xE => page3RowE (op.toNat % 16) w1 w2
  | 0xF => page3RowF (op.toNat % 16) w1 w2
  | _ => none

/-- Decode from the three words the hardware reads (30_encoding.md R150, R156). A cell with no instruction is
rejected by name (R157). -/
def decode (w0 w1 w2 : Word) : Except DecodeReject Instr :=
  match (hi w0).toNat with
  | 0x17 => match page1 (lo w0) w1 w2 with
    | some i => .ok i
    | none => .error (.undefinedOpcode 1 (lo w0))
  | 0x27 => match page2 (lo w0) w1 w2 with
    | some i => .ok i
    | none => .error (.undefinedOpcode 2 (lo w0))
  | 0x37 => match page3 (lo w0) w1 w2 with
    | some i => .ok i
    | none => .error (.undefinedOpcode 3 (lo w0))
  | _ => match page0 (hi w0) (lo w0) w1 w2 with
    | some i => .ok i
    | none => .error (.undefinedOpcode 0 (hi w0))

/-! ### The encoder -/

/-- 0, 1, 2 for X, Y, Z: the index register rows of the opcode map lie $10 apart (30_encoding.md R159). -/
def idxStep (r : Idx) : Byte :=
  match r with
  | .x => 0x00#8
  | .y => 0x10#8
  | .z => 0x20#8

/-- A page-0 opcode with its operand byte (30_encoding.md R152). -/
def encByte (op b : Byte) : List Word := [op ++ b]

/-- An inherent instruction: prebyte and opcode (30_encoding.md R152). -/
def encInh (pre op : Byte) : List Word := [pre ++ op]

/-- Prebyte, opcode and one operand word (30_encoding.md R152). -/
def encWord (pre op : Byte) (w : Word) : List Word := [pre ++ op, w]

/-- The regular memory operand: IND8 at `base` of page 0, IND16 and EXT on page `pre`, accumulator offset on page 2,
the index registers $10 apart and EXT $30 above X (30_encoding.md R159). -/
def encMem (base pre : Byte) (m : MemOp) : List Word :=
  match m with
  | .ind8 r ff => encByte (base + idxStep r) ff
  | .ind16 r gggg => encWord pre (base + idxStep r) gggg
  | .ext hhll => encWord pre (base + 0x30#8) hhll
  | .eoff r => encInh 0x27 (base + idxStep r)

/-- The byte operations of A and B: memory as `encMem` on page 1, IMM8 $30 above IND8,X (30_encoding.md R159). -/
def encSrc8 (base : Byte) (src : Src8) : List Word :=
  match src with
  | .imm ii => encByte (base + 0x30#8) ii
  | .mem m => encMem base 0x17 m

/-- The memory operand of the D operations: IND16 and EXT on page 3, $40 above (30_encoding.md R159). -/
def encMemD (base : Byte) (m : MemOp) : List Word :=
  match m with
  | .ind8 r ff => encByte (base + idxStep r) ff
  | .ind16 r gggg => encWord 0x37 (base + 0x40#8 + idxStep r) gggg
  | .ext hhll => encWord 0x37 (base + 0x70#8) hhll
  | .eoff r => encInh 0x27 (base + idxStep r)

/-- The D operations: IMM16 on page 3, $30 above IND8,X; IMM8 is ADDD's own opcode $FC (30_encoding.md R159). -/
def encSrcD (base : Byte) (src : Src16) : List Word :=
  match src with
  | .imm8 ii => encByte 0xFC ii
  | .imm16 jjkk => encWord 0x37 (base + 0x30#8) jjkk
  | .mem m => encMemD base m

/-- The memory operand of the E operations, all on page 3: IND16 $10 above IMM16, EXT $40 above
(30_encoding.md R159). `base` is the IMM16 opcode. -/
def encMemE (base : Byte) (m : MemOp) : List Word :=
  match m with
  | .ind8 r ff => encByte (base + idxStep r) ff
  | .ind16 r gggg => encWord 0x37 (base + 0x10#8 + idxStep r) gggg
  | .ext hhll => encWord 0x37 (base + 0x40#8) hhll
  | .eoff r => encInh 0x37 (base + idxStep r)

/-- The E operations; IMM8 is ADDE's own opcode $7C (30_encoding.md R159). -/
def encSrcE (base : Byte) (src : Src16) : List Word :=
  match src with
  | .imm8 ii => encByte 0x7C ii
  | .imm16 jjkk => encWord 0x37 base jjkk
  | .mem m => encMemE base m

/-- Loads and compares of IX, IY, IZ, SP: memory as `encMem` on page 1, IMM16 at `immOp` of page 3
(30_encoding.md R174, R177). -/
def encSrcI (base immOp : Byte) (src : Src16) : List Word :=
  match src with
  | .imm8 ii => encByte immOp ii
  | .imm16 jjkk => encWord 0x37 immOp jjkk
  | .mem m => encMem base 0x17 m

/-- BCLR and BSET: IND8 on page 1 with mask and offset in the second word; IND16 and EXT on page 0 with the mask in
the first (30_encoding.md R154). -/
def encBit (base mm : Byte) (m : MemOp) : List Word :=
  match m with
  | .ind8 r ff => encWord 0x17 (base + idxStep r) (mm ++ ff)
  | .ind16 r gggg => [(base + idxStep r) ++ mm, gggg]
  | .ext hhll => [(base + 0x30#8) ++ mm, hhll]
  | .eoff r => encInh 0x17 (base + idxStep r)

/-- BCLRW and BSETW: page 2, the mask after the address (30_encoding.md R154). -/
def encBitW (base : Byte) (mmmm : Word) (m : MemOp) : List Word := encMem base 0x27 m ++ [mmmm]

/-- BRCLR and BRSET: the mask in the first word, then offset and branch (30_encoding.md R154). -/
def encBr (base8 base mm : Byte) (op : BrOp) : List Word :=
  match op with
  | .ind8 r ff rr => [(base8 + idxStep r) ++ mm, ff ++ rr]
  | .ind16 r gggg rrrr => [(base + idxStep r) ++ mm, gggg, rrrr]
  | .ext hhll rrrr => [(base + 0x30#8) ++ mm, hhll, rrrr]

/-- JMP and JSR: four zero bits, the bank nibble, then the low word (30_encoding.md R152, R154). -/
def encJmp (extOp indOp : Byte) (op : JmpOp) : List Word :=
  match op with
  | .ext20 target => [extOp ++ (0#4 ++ bank target), offset target]
  | .ind20 r off => [(indOp + idxStep r) ++ (0#4 ++ bank off), offset off]

/-- MOVB and MOVW: opcodes $30 to $33 for the IXP forms, page 3 for EXT to EXT, source first
(30_encoding.md R154). -/
def encMov (fromOp toOp extOp : Byte) (op : MovOp) : List Word :=
  match op with
  | .ixpToExt ff hhll => [fromOp ++ ff, hhll]
  | .extToIxp ff hhll => [toOp ++ ff, hhll]
  | .extToExt src dst => [0x37#8 ++ extOp, src, dst]

/-- AIS, AIX, AIY, AIZ: IMM8 on page 0 and IMM16 on page 3 at the same opcode (30_encoding.md R177). -/
def encImm (op : Byte) (i : Imm) : List Word :=
  match i with
  | .imm8 ii => encByte op ii
  | .imm16 jjkk => encWord 0x37 op jjkk

/-- The words of an instruction, first word first (30_encoding.md R150, R154, R177). -/
def encode (i : Instr) : List Word :=
  match i with
  | .com m => encMem 0x00 0x17 m
  | .dec m => encMem 0x01 0x17 m
  | .neg m => encMem 0x02 0x17 m
  | .inc m => encMem 0x03 0x17 m
  | .asl m => encMem 0x04 0x17 m
  | .clr m => encMem 0x05 0x17 m
  | .tst m => encMem 0x06 0x17 m
  | .bclr mm m => encBit 0x08 mm m
  | .bset mm m => encBit 0x09 mm m
  | .brclr mm op => encBr 0xCB 0x0A mm op
  | .brset mm op => encBr 0x8B 0x0B mm op
  | .rol m => encMem 0x0C 0x17 m
  | .asr m => encMem 0x0D 0x17 m
  | .ror m => encMem 0x0E 0x17 m
  | .lsr m => encMem 0x0F 0x17 m
  | .movb op => encMov 0x30 0x32 0xFE op
  | .movw op => encMov 0x31 0x33 0xFF op
  | .pshm mask => encByte 0x34 mask
  | .pulm mask => encByte 0x35 mask
  | .bsr rr => encByte 0x36 rr
  | .aix i => encImm 0x3C i
  | .aiy i => encImm 0x3D i
  | .aiz i => encImm 0x3E i
  | .ais i => encImm 0x3F i
  | .suba src => encSrc8 0x40 src
  | .adda src => encSrc8 0x41 src
  | .sbca src => encSrc8 0x42 src
  | .adca src => encSrc8 0x43 src
  | .eora src => encSrc8 0x44 src
  | .ldaa src => encSrc8 0x45 src
  | .anda src => encSrc8 0x46 src
  | .oraa src => encSrc8 0x47 src
  | .cmpa src => encSrc8 0x48 src
  | .bita src => encSrc8 0x49 src
  | .staa m => encMem 0x4A 0x17 m
  | .jmp op => encJmp 0x7A 0x4B op
  | .cpx src => encSrcI 0x4C 0x7C src
  | .cpy src => encSrcI 0x4D 0x7D src
  | .cpz src => encSrcI 0x4E 0x7E src
  | .cps src => encSrcI 0x4F 0x7F src
  | .mac xoyo => encByte 0x7B xoyo
  | .adde src => encSrcE 0x31 src
  | .subd src => encSrcD 0x80 src
  | .addd src => encSrcD 0x81 src
  | .sbcd src => encSrcD 0x82 src
  | .adcd src => encSrcD 0x83 src
  | .eord src => encSrcD 0x84 src
  | .ldd src => encSrcD 0x85 src
  | .andd src => encSrcD 0x86 src
  | .ord src => encSrcD 0x87 src
  | .cpd src => encSrcD 0x88 src
  | .jsr op => encJmp 0xFA 0x89 op
  | .std m => encMemD 0x8A m
  | .stx m => encMem 0x8C 0x17 m
  | .sty m => encMem 0x8D 0x17 m
  | .stz m => encMem 0x8E 0x17 m
  | .sts m => encMem 0x8F 0x17 m
  | .bra rr => encByte 0xB0 rr
  | .brn rr => encByte 0xB1 rr
  | .bhi rr => encByte 0xB2 rr
  | .bls rr => encByte 0xB3 rr
  | .bcc rr => encByte 0xB4 rr
  | .bcs rr => encByte 0xB5 rr
  | .bne rr => encByte 0xB6 rr
  | .beq rr => encByte 0xB7 rr
  | .bvc rr => encByte 0xB8 rr
  | .bvs rr => encByte 0xB9 rr
  | .bpl rr => encByte 0xBA rr
  | .bmi rr => encByte 0xBB rr
  | .bge rr => encByte 0xBC rr
  | .blt rr => encByte 0xBD rr
  | .bgt rr => encByte 0xBE rr
  | .ble rr => encByte 0xBF rr
  | .subb src => encSrc8 0xC0 src
  | .addb src => encSrc8 0xC1 src
  | .sbcb src => encSrc8 0xC2 src
  | .adcb src => encSrc8 0xC3 src
  | .eorb src => encSrc8 0xC4 src
  | .ldab src => encSrc8 0xC5 src
  | .andb src => encSrc8 0xC6 src
  | .orab src => encSrc8 0xC7 src
  | .cmpb src => encSrc8 0xC8 src
  | .bitb src => encSrc8 0xC9 src
  | .stab m => encMem 0xCA 0x17 m
  | .ldx src => encSrcI 0xCC 0xBC src
  | .ldy src => encSrcI 0xCD 0xBD src
  | .ldz src => encSrcI 0xCE 0xBE src
  | .lds src => encSrcI 0xCF 0xBF src
  | .rmac xoyo => encByte 0xFB xoyo
  | .comw m => encMem 0x00 0x27 m
  | .decw m => encMem 0x01 0x27 m
  | .negw m => encMem 0x02 0x27 m
  | .incw m => encMem 0x03 0x27 m
  | .aslw m => encMem 0x04 0x27 m
  | .clrw m => encMem 0x05 0x27 m
  | .tstw m => encMem 0x06 0x27 m
  | .bclrw mmmm m => encBitW 0x08 mmmm m
  | .bsetw mmmm m => encBitW 0x09 mmmm m
  | .rolw m => encMem 0x0C 0x27 m
  | .asrw m => encMem 0x0D 0x27 m
  | .rorw m => encMem 0x0E 0x27 m
  | .lsrw m => encMem 0x0F 0x27 m
  | .nop => encInh 0x27 0x4C
  | .tyx => encInh 0x27 0x4D
  | .tzx => encInh 0x27 0x4E
  | .tsx => encInh 0x27 0x4F
  | .txy => encInh 0x27 0x5C
  | .tzy => encInh 0x27 0x5E
  | .tsy => encInh 0x27 0x5F
  | .txz => encInh 0x27 0x6C
  | .tyz => encInh 0x27 0x6D
  | .tsz => encInh 0x27 0x6F
  | .come => encInh 0x27 0x70
  | .lded hhll => encWord 0x27 0x71 hhll
  | .nege => encInh 0x27 0x72
  | .sted hhll => encWord 0x27 0x73 hhll
  | .asle => encInh 0x27 0x74
  | .clre => encInh 0x27 0x75
  | .tste => encInh 0x27 0x76
  | .rti => encInh 0x27 0x77
  | .ade => encInh 0x27 0x78
  | .sde => encInh 0x27 0x79
  | .xgde => encInh 0x27 0x7A
  | .tde => encInh 0x27 0x7B
  | .role => encInh 0x27 0x7C
  | .asre => encInh 0x27 0x7D
  | .rore => encInh 0x27 0x7E
  | .lsre => encInh 0x27 0x7F
  | .ldhi => encInh 0x27 0xB0
  | .tedm => encInh 0x27 0xB1
  | .tem => encInh 0x27 0xB2
  | .tmxed => encInh 0x27 0xB3
  | .tmer => encInh 0x27 0xB4
  | .tmet => encInh 0x27 0xB5
  | .aslm => encInh 0x27 0xB6
  | .clrm => encInh 0x27 0xB7
  | .pshmac => encInh 0x27 0xB8
  | .pulmac => encInh 0x27 0xB9
  | .asrm => encInh 0x27 0xBA
  | .tekb => encInh 0x27 0xBB
  | .comd => encInh 0x27 0xF0
  | .lpstop => encInh 0x27 0xF1
  | .negd => encInh 0x27 0xF2
  | .wai => encInh 0x27 0xF3
  | .asld => encInh 0x27 0xF4
  | .clrd => encInh 0x27 0xF5
  | .tstd => encInh 0x27 0xF6
  | .rts => encInh 0x27 0xF7
  | .sxt => encInh 0x27 0xF8
  | .lbsr rrrr => encWord 0x27 0xF9 rrrr
  | .tbek => encInh 0x27 0xFA
  | .ted => encInh 0x27 0xFB
  | .rold => encInh 0x27 0xFC
  | .asrd => encInh 0x27 0xFD
  | .rord => encInh 0x27 0xFE
  | .lsrd => encInh 0x27 0xFF
  | .coma => encInh 0x37 0x00
  | .deca => encInh 0x37 0x01
  | .nega => encInh 0x37 0x02
  | .inca => encInh 0x37 0x03
  | .asla => encInh 0x37 0x04
  | .clra => encInh 0x37 0x05
  | .tsta => encInh 0x37 0x06
  | .tba => encInh 0x37 0x07
  | .psha => encInh 0x37 0x08
  | .pula => encInh 0x37 0x09
  | .sba => encInh 0x37 0x0A
  | .aba => encInh 0x37 0x0B
  | .rola => encInh 0x37 0x0C
  | .asra => encInh 0x37 0x0D
  | .rora => encInh 0x37 0x0E
  | .lsra => encInh 0x37 0x0F
  | .comb => encInh 0x37 0x10
  | .decb => encInh 0x37 0x11
  | .negb => encInh 0x37 0x12
  | .incb => encInh 0x37 0x13
  | .aslb => encInh 0x37 0x14
  | .clrb => encInh 0x37 0x15
  | .tstb => encInh 0x37 0x16
  | .tab => encInh 0x37 0x17
  | .pshb => encInh 0x37 0x18
  | .pulb => encInh 0x37 0x19
  | .xgab => encInh 0x37 0x1A
  | .cba => encInh 0x37 0x1B
  | .rolb => encInh 0x37 0x1C
  | .asrb => encInh 0x37 0x1D
  | .rorb => encInh 0x37 0x1E
  | .lsrb => encInh 0x37 0x1F
  | .swi => encInh 0x37 0x20
  | .daa => encInh 0x37 0x21
  | .ace => encInh 0x37 0x22
  | .aced => encInh 0x37 0x23
  | .mul => encInh 0x37 0x24
  | .emul => encInh 0x37 0x25
  | .emuls => encInh 0x37 0x26
  | .fmuls => encInh 0x37 0x27
  | .ediv => encInh 0x37 0x28
  | .edivs => encInh 0x37 0x29
  | .idiv => encInh 0x37 0x2A
  | .fdiv => encInh 0x37 0x2B
  | .tpd => encInh 0x37 0x2C
  | .tdp => encInh 0x37 0x2D
  | .tdmsk => encInh 0x37 0x2F
  | .sube src => encSrcE 0x30 src
  | .sbce src => encSrcE 0x32 src
  | .adce src => encSrcE 0x33 src
  | .eore src => encSrcE 0x34 src
  | .lde src => encSrcE 0x35 src
  | .ande src => encSrcE 0x36 src
  | .ore src => encSrcE 0x37 src
  | .cpe src => encSrcE 0x38 src
  | .andp jjkk => encWord 0x37 0x3A jjkk
  | .orp jjkk => encWord 0x37 0x3B jjkk
  | .ste m => encMemE 0x3A m
  | .xgex => encInh 0x37 0x4C
  | .aex => encInh 0x37 0x4D
  | .txs => encInh 0x37 0x4E
  | .abx => encInh 0x37 0x4F
  | .xgey => encInh 0x37 0x5C
  | .aey => encInh 0x37 0x5D
  | .tys => encInh 0x37 0x5E
  | .aby => encInh 0x37 0x5F
  | .xgez => encInh 0x37 0x6C
  | .aez => encInh 0x37 0x6D
  | .tzs => encInh 0x37 0x6E
  | .abz => encInh 0x37 0x6F
  | .lbra rrrr => encWord 0x37 0x80 rrrr
  | .lbrn rrrr => encWord 0x37 0x81 rrrr
  | .lbhi rrrr => encWord 0x37 0x82 rrrr
  | .lbls rrrr => encWord 0x37 0x83 rrrr
  | .lbcc rrrr => encWord 0x37 0x84 rrrr
  | .lbcs rrrr => encWord 0x37 0x85 rrrr
  | .lbne rrrr => encWord 0x37 0x86 rrrr
  | .lbeq rrrr => encWord 0x37 0x87 rrrr
  | .lbvc rrrr => encWord 0x37 0x88 rrrr
  | .lbvs rrrr => encWord 0x37 0x89 rrrr
  | .lbpl rrrr => encWord 0x37 0x8A rrrr
  | .lbmi rrrr => encWord 0x37 0x8B rrrr
  | .lbge rrrr => encWord 0x37 0x8C rrrr
  | .lblt rrrr => encWord 0x37 0x8D rrrr
  | .lbgt rrrr => encWord 0x37 0x8E rrrr
  | .lble rrrr => encWord 0x37 0x8F rrrr
  | .lbmv rrrr => encWord 0x37 0x90 rrrr
  | .lbev rrrr => encWord 0x37 0x91 rrrr
  | .tbxk => encInh 0x37 0x9C
  | .tbyk => encInh 0x37 0x9D
  | .tbzk => encInh 0x37 0x9E
  | .tbsk => encInh 0x37 0x9F
  | .bgnd => encInh 0x37 0xA6
  | .txkb => encInh 0x37 0xAC
  | .tykb => encInh 0x37 0xAD
  | .tzkb => encInh 0x37 0xAE
  | .tskb => encInh 0x37 0xAF
  | .xgdx => encInh 0x37 0xCC
  | .adx => encInh 0x37 0xCD
  | .xgdy => encInh 0x37 0xDC
  | .ady => encInh 0x37 0xDD
  | .xgdz => encInh 0x37 0xEC
  | .adz => encInh 0x37 0xED
  | .tpa => encInh 0x37 0xFC
  | .tap => encInh 0x37 0xFD

/-- The length of an instruction in bytes, 2, 4 or 6 (30_encoding.md R155). -/
def Instr.length (i : Instr) : Nat := 2 * (encode i).length

/-- Word number `n` of an instruction, zero past its end. -/
def encodedWord (i : Instr) (n : Nat) : Word := (encode i).getD n 0#16

/-! ### The host's numbering -/

/-- Word number `k` of an instruction numbered as spec/opcode_table.json numbers its bits: bits 16k+15 .. 16k, every
bit at or above `nbits` zero. -/
def tableWord (nbits w k : Nat) : Word := BitVec.ofNat 16 (w % 2 ^ nbits / 2 ^ (16 * k))

/-- The instruction the decoder reads from the table's bits `w`. -/
def decodeTableWord (nbits w : Nat) : Option Instr :=
  match decode (tableWord nbits w 0) (tableWord nbits w 1) (tableWord nbits w 2) with
  | .ok i => some i
  | .error _ => none

end Sys2Proof
end

