-- ==== Sys2Proof/Config.lean ====
section
/-!
DEFINITION. What an implementation fixes (spec 00_scope.md R12) and the free values of the model.
A free value is a constant with no body, applied to the counter `draws` of the state: nothing in Lean can
compute it, so a theorem that holds of it holds for every value the hardware could deliver (00_scope.md R10).
-/

namespace Sys2Proof

/-- The two address spaces that hold bytes (20_memory.md R93). CPU space is not addressable (R97). -/
inductive Space where
  | program
  | data
deriving DecidableEq, Repr

/-- A range of bus cycles the platform singles out: reads or writes of one space at addresses `lo` to `hi`.
A list of windows is the model's form of the predicates `BusError` and `Bkpt` (00_scope.md R9). -/
structure Window where
  space : Space
  write : Bool
  lo : Nat
  hi : Nat
deriving DecidableEq, Repr

/-- The platform's answer to an interrupt acknowledge cycle (60_exceptions.md R670). -/
inductive IackAnswer where
  | vector (n : Byte)
  | avec
  | berr
deriving DecidableEq, Repr

/-- The parameters of 00_scope.md R12, fixed for the life of a run. No step changes them. BDM_ENABLED, the platform's
choice at each reset, is an input of the step instead (70_reset_and_hazards.md R724).
`iack` lists the answers for the levels 1, 2, 3 ...; a level beyond the list answers AVEC, the default of R12.
`externalMasters` is EXTERNAL_MASTERS. `berrDelay` and `bsrBase4` are the two-valued BERR_DELAY (1 when set) and BSR_BASE (4 when set). -/
structure Platform where
  splitSpaces : Bool := false
  busErrors : List Window := []
  berrDelay : Bool := false
  bsrBase4 : Bool := false
  bkpts : List Window := []
  iack : List IackAnswer := []
  externalMasters : Bool := false
deriving DecidableEq, Repr

/-- An `any value` of one bit (00_scope.md R10). DESIGN CHOICE: log entry 7. -/
opaque Config.anyBit : Nat → Bool

/-- An `any value` of eight bits (00_scope.md R10). DESIGN CHOICE: log entry 7. -/
opaque Config.anyByte : Nat → Byte

/-- An `any value` of sixteen bits (00_scope.md R10). DESIGN CHOICE: log entry 7. -/
opaque Config.anyWord : Nat → Word

/-- An `any value` of twenty bits (00_scope.md R10). DESIGN CHOICE: log entry 7. -/
opaque Config.anyAddr : Nat → Addr

/-- An `any value` of thirty-six bits (00_scope.md R10). DESIGN CHOICE: log entry 7. -/
opaque Config.anyAcc : Nat → Acc

end Sys2Proof
end

