-- ==== Sys2Proof/Machine/Memory.lean ====
section
/-!
DEFINITION. Memory: a list of (address, byte) pairs in one canonical form, addresses strictly rising below 2^20 and
no entry equal to what an unlisted address reads as (spec 20_memory.md R90; log entry 2).
-/

namespace Sys2Proof

/-- One address space of 2^20 bytes (20_memory.md R90, R94). -/
abbrev Memory := List Host.Cell

/-- What an unlisted address reads as. DESIGN CHOICE, unsafe: the spec gives no content (log entry 2). -/
def Memory.unlisted : Byte := 0x00#8

/-- The byte at address `a`. -/
def Memory.get (m : Memory) (a : Nat) : Byte :=
  match m with
  | [] => Memory.unlisted
  | (k, v) :: rest => if k = a then v else Memory.get rest a

/-- The canonical form from address `low` upwards. -/
def Memory.wfFrom (low : Nat) (m : Memory) : Bool :=
  match m with
  | [] => true
  | (k, v) :: rest =>
    decide (low ≤ k) && decide (k < 2 ^ 20) && !(v == Memory.unlisted) && Memory.wfFrom (k + 1) rest

/-- The canonical form: addresses strictly rising, below 2^20, no entry that reads as an unlisted address does. -/
def Memory.wf (m : Memory) : Bool := Memory.wfFrom 0 m

/-- The entry for `v` at `a`, or none where an unlisted address reads as `v`. -/
def Memory.entry (a : Nat) (v : Byte) (rest : Memory) : Memory :=
  if v = Memory.unlisted then rest else (a, v) :: rest

/-- Write the byte `v` at address `a`, keeping the canonical form. -/
def Memory.set (m : Memory) (a : Nat) (v : Byte) : Memory :=
  match m with
  | [] => Memory.entry a v []
  | (k, w) :: rest =>
    if a < k then Memory.entry a v ((k, w) :: rest)
    else if a = k then Memory.entry a v rest
    else (k, w) :: Memory.set rest a v

end Sys2Proof
end

