-- ==== Sys2Proof/Machine/State.lean ====
section
/-!
DEFINITION. The state of the CPU16 as plain data (spec 10_state.md R20 to R58, 00_scope.md R9, R12), the reasons a
step can stop, and the machine right after reset (70_reset_and_hazards.md R720 to R725).
-/

namespace Sys2Proof.Machine

/-- The condition code register without PK (10_state.md R37 to R47). PK is bits [19:16] of `State.pc`:
it is not separate storage (10_state.md R20, log entry 26). -/
structure Ccr where
  s : Bool
  mv : Bool
  h : Bool
  ev : Bool
  n : Bool
  z : Bool
  v : Bool
  c : Bool
  ip : BitVec 3
  sm : Bool
deriving DecidableEq, Repr

/-- The MAC unit registers: HR, IR, AM, XMSK, YMSK and the sign latch SL (10_state.md R54 to R57). -/
structure MacUnit where
  hr : Word
  ir : Word
  am : Acc
  xmsk : Byte
  ymsk : Byte
  sl : Bool
deriving DecidableEq, Repr

/-- `run_state` (10_state.md R58). -/
inductive RunState where
  | running
  | stopped
  | waiting
  | halted
  | background
deriving DecidableEq, Repr

/-- The state no instruction can read (10_state.md R58). `berrWait` counts the boundaries until a latched bus error
is due (60_exceptions.md R651); `irq7Prev` is the IRQ7 line at the last sample (R672); `stopMask` is the copy of IP
that LPSTOP hands out (48_stop_wait_misc.md R610). -/
structure Hidden where
  bdmEnabled : Bool
  berrLatch : Bool
  berrWait : Nat
  irqInhibit : Bool
  irq7Pending : Bool
  irq7Prev : Bool
  bkptPending : Bool
  faultWindow : Bool
  stopMask : BitVec 3
deriving DecidableEq, Repr

/-- RESET during a step: not asserted, asserted between steps, or asserted inside the step, whose instruction is
then aborted part-way (00_scope.md R8 item 1, 70_reset_and_hazards.md R722). -/
inductive ResetPin where
  | off
  | between
  | inside
deriving DecidableEq, Repr

/-- One byte that another bus master writes (20_memory.md R125). -/
structure MasterWrite where
  space : Space
  addr : Addr
  value : Byte
deriving DecidableEq, Repr

/-- The inputs of one step (00_scope.md R9): RESET; BDM_ENABLED, the BKPT sample a reset takes
(70_reset_and_hazards.md R724; false is the default of 00_scope.md R12); the asserted request lines, bit L for IRQL; after how many
further iterations an RMAC is suspended (47_dsp.md R594); the words of one debug command (60_exceptions.md R693); and
what other bus masters write before the first, second, third … byte or first byte of a word that the CPU16 transfers,
with a place between the two bytes of each word as well (20_memory.md R122, R125; log entry 21). -/
structure Pins where
  reset : ResetPin
  bdmEnabled : Bool
  irq : BitVec 8
  suspend : Option Nat
  bdm : List Word
  writes : List (List MasterWrite)
deriving DecidableEq, Repr

/-- An output of the machine (00_scope.md R9): the CPU-space cycles, and the words a debug command returned, each
with its status bit as bit 16 (60_exceptions.md R692). -/
inductive Event where
  | iack (level : BitVec 3)
  | bkptAck
  | lpstopBroadcast (ip : BitVec 3)
  | bdmReply (words : List (BitVec 17))
deriving DecidableEq, Repr

/-- The whole machine. `pc` is PK:PC, the address of the next instruction (00_scope.md R7). `mem` is data space,
and program space too unless the platform splits them, when `pmem` is program space (20_memory.md R94).
`platform`, `pins` and `script` are the host's side (00_scope.md R9, R12; log entry 5); `events` the outputs.
`draws` and `stores` are the model's own (log entry 6): the number of free values used, and the bytes stored so far
in the present step. -/
structure State where
  a : Byte
  b : Byte
  e : Word
  ix : Word
  iy : Word
  iz : Word
  sp : Word
  ek : Nibble
  xk : Nibble
  yk : Nibble
  zk : Nibble
  sk : Nibble
  pc : Addr
  ccr : Ccr
  mac : MacUnit
  run : RunState
  hid : Hidden
  mem : Memory
  pmem : Memory
  platform : Platform
  pins : Pins
  script : List Pins
  events : List Event
  draws : Nat
  stores : List (Space × Addr)
deriving DecidableEq, Repr

/-- The faults of the machine: none. Every exception of the CPU16 is taken and answers a next state
(60_exceptions.md R635, R683), and a double bus fault is a `run_state`, left by RESET (R652). Safe. -/
inductive Fault where
deriving DecidableEq, Repr

/-- The refusals of the machine. -/
inductive Refusal where
  /-- Raised by an arm of `exec` whose instruction has no meaning yet; safe: nothing is claimed of it. -/
  | notModelled (mnemonic : String)
  /-- Raised by `step` when the instruction changed words the pipeline may already hold, which the spec
  refuses (20_memory.md R123, 70_reset_and_hazards.md R742, log entry 15); safe: nothing is claimed of the run. -/
  | storeIntoPrefetch
deriving DecidableEq, Repr

/-- Inputs with nothing asserted. -/
def Pins.idle : Pins := { reset := .off, bdmEnabled := false, irq := 0#8, suspend := none, bdm := [], writes := [] }

/-- The machine right after reset (70_reset_and_hazards.md R723, R725), with memory that lists nothing, so that the
reset vector reads as zero words (log entry 2). Registers the spec gives no reset value hold zero: DESIGN CHOICE,
log entry 1. -/
def State.reset : State where
  a := 0#8
  b := 0#8
  e := 0#16
  ix := 0#16
  iy := 0#16
  iz := 0#16
  sp := 0#16
  ek := 0#4
  xk := 0#4
  yk := 0#4
  zk := 0#4
  sk := 0#4
  pc := 0#20
  ccr :=
    { s := true, mv := false, h := false, ev := false, n := false, z := false, v := false, c := false,
      ip := 7#3, sm := false }
  mac := { hr := 0#16, ir := 0#16, am := 0#36, xmsk := 0#8, ymsk := 0#8, sl := false }
  run := .running
  hid :=
    { bdmEnabled := false, berrLatch := false, berrWait := 0, irqInhibit := true, irq7Pending := false,
      irq7Prev := false, bkptPending := false, faultWindow := true, stopMask := 0#3 }
  mem := []
  pmem := []
  platform := {}
  pins := Pins.idle
  script := []
  events := []
  draws := 0
  stores := []

end Sys2Proof.Machine
end

