-- ==== Sys2Proof/Machine/Ops.lean ====
section
/-!
DEFINITION. The named operations over registers and memory (spec 10_state.md R22 to R57, 20_memory.md R94 to R124),
the taking of an exception (60_exceptions.md R680 to R683), and the returns beside it
(44_program_control.md R442, R443).
-/

namespace Sys2Proof.Machine

/-- What a step or a meaning answers. -/
abbrev Out := Host.Outcome State Fault Refusal

/-! ### Register views -/

/-- D is A : B (10_state.md R22). -/
def State.d (s : State) : Word := s.a ++ s.b

/-- Writing D writes A and B (10_state.md R22). -/
def State.setD (v : Word) (s : State) : State := { s with a := hi v, b := lo v }

/-- E : D, the 32-bit operand of the extended arithmetic (10_state.md R23). -/
def State.ed (s : State) : BitVec 32 := s.e ++ s.d

/-- Write E : D. -/
def State.setEd (v : BitVec 32) (s : State) : State :=
  { s.setD (v.extractLsb' 0 16) with e := v.extractLsb' 16 16 }

/-- K is EK : XK : YK : ZK (10_state.md R27). -/
def State.k (s : State) : Word := s.ek ++ s.xk ++ s.yk ++ s.zk

/-- Write the four extension fields of K (10_state.md R27). -/
def State.setK (v : Word) (s : State) : State :=
  { s with
    ek := v.extractLsb' 12 4, xk := v.extractLsb' 8 4, yk := v.extractLsb' 4 4, zk := v.extractLsb' 0 4 }

/-- SK : SP (10_state.md R28). -/
def State.skSp (s : State) : Addr := s.sk ++ s.sp

/-- Write SK : SP (10_state.md R29, R32). -/
def State.setSkSp (v : Addr) (s : State) : State := { s with sk := bank v, sp := offset v }

/-- An index register, 16 bits (10_state.md R24). -/
def State.index (r : Idx) (s : State) : Word :=
  match r with
  | .x => s.ix
  | .y => s.iy
  | .z => s.iz

/-- Write an index register and leave its extension field (45_indexing_extension.md R530). -/
def State.setIndex (r : Idx) (v : Word) (s : State) : State :=
  match r with
  | .x => { s with ix := v }
  | .y => { s with iy := v }
  | .z => { s with iz := v }

/-- An extension field XK, YK or ZK (10_state.md R25). -/
def State.ext (r : Idx) (s : State) : Nibble :=
  match r with
  | .x => s.xk
  | .y => s.yk
  | .z => s.zk

/-- Write an extension field XK, YK or ZK. -/
def State.setExt (r : Idx) (v : Nibble) (s : State) : State :=
  match r with
  | .x => { s with xk := v }
  | .y => { s with yk := v }
  | .z => { s with zk := v }

/-- XK : IX, YK : IY or ZK : IZ (10_state.md R24). -/
def State.pointer (r : Idx) (s : State) : Addr := s.ext r ++ s.index r

/-- Write XK : IX, YK : IY or ZK : IZ (10_state.md R52). -/
def State.setPointer (r : Idx) (v : Addr) (s : State) : State := (s.setExt r (bank v)).setIndex r (offset v)

/-- PK, bits [19:16] of the program counter (10_state.md R35). -/
def State.pk (s : State) : Nibble := bank s.pc

/-- The end of an instruction of `len` bytes that assigns no pc (00_scope.md R7). -/
def State.advance (len : Addr) (s : State) : State := { s with pc := s.pc + len }

/-- Assign the next-instruction address; bit 0 is forced to 0 (00_scope.md R5, 10_state.md R34). -/
def State.jumpTo (target : Addr) (s : State) : State := { s with pc := even20 target }

/-- The visible program counter during execution, `ia + 6` (00_scope.md R7). -/
def State.vpc (s : State) : Addr := s.pc + 6

/-! ### The condition code register -/

/-- The 16-bit image of CCR with `pk` in bits [3:0] (10_state.md R37). -/
def Ccr.pack (c : Ccr) (pk : Nibble) : Word :=
  BitVec.ofBool c.s ++ BitVec.ofBool c.mv ++ BitVec.ofBool c.h ++ BitVec.ofBool c.ev ++
    BitVec.ofBool c.n ++ BitVec.ofBool c.z ++ BitVec.ofBool c.v ++ BitVec.ofBool c.c ++
    c.ip ++ BitVec.ofBool c.sm ++ pk

/-- CCR[15:4] from a 16-bit image (10_state.md R37). -/
def Ccr.unpack (w : Word) : Ccr :=
  { s := w.getLsbD 15, mv := w.getLsbD 14, h := w.getLsbD 13, ev := w.getLsbD 12,
    n := w.getLsbD 11, z := w.getLsbD 10, v := w.getLsbD 9, c := w.getLsbD 8,
    ip := w.extractLsb' 5 3, sm := w.getLsbD 4 }

/-- Write CCR[15:4]. A write that lowers IP from 7 while IRQ7 is asserted makes a level-7 request pending
(60_exceptions.md R672 (b)): every writer of IP but exception processing and reset comes here (10_state.md R49). -/
def State.writeCcr (c : Ccr) (s : State) : State :=
  { s with
    ccr := c
    hid := { s.hid with
      irq7Pending :=
        s.hid.irq7Pending || ((s.ccr.ip == 7#3) && !(c.ip == 7#3) && s.pins.irq.getLsbD 7) } }

/-! ### Bus cycles -/

/-- Count a free value as used (log entry 6). -/
def State.bump (s : State) : State := { s with draws := s.draws + 1 }

/-- The window holds the bus cycle: same space, same direction, address in range. -/
def windowHits (w : Window) (sp : Space) (write : Bool) (a : Addr) : Bool :=
  (w.space == sp) && (w.write == write) && decide (w.lo ≤ a.toNat) && decide (a.toNat ≤ w.hi)

/-- Some window of the list holds one of the bus cycles. -/
def hitsAny (ws : List Window) (sp : Space) (write : Bool) (cycles : List Addr) : Bool :=
  cycles.any fun a => ws.any fun w => windowHits w sp write a

/-- The bus cycles of a word access: one when aligned, two byte cycles when misaligned, most significant byte first
(20_memory.md R104, R106; log entry 8). -/
def wordCycles (a : Addr) : List Addr := if a.getLsbD 0 then [a, a + 1] else [a]

/-- The bus cycles of a long-word access: those of its two words, the most significant first (20_memory.md R101, R104,
R106). -/
def longCycles (a : Addr) : List Addr := wordCycles a ++ wordCycles (a + 2)

/-- `BusError(space, addr, rw)` holds for one of the cycles (20_memory.md R110). -/
def State.busError (sp : Space) (write : Bool) (cycles : List Addr) (s : State) : Bool :=
  hitsAny s.platform.busErrors sp write cycles

/-- `Bkpt(space, addr, rw)` holds for one of the cycles (60_exceptions.md R660). -/
def State.bkptHit (sp : Space) (write : Bool) (cycles : List Addr) (s : State) : Bool :=
  hitsAny s.platform.bkpts sp write cycles

/-- A double bus fault: background mode when enabled, else halted; PK:PC is `any value`
(60_exceptions.md R652; 93_implementation_defined.md U10). -/
def State.doubleBusFault (s : State) : State :=
  { s.bump with
    run := if s.hid.bdmEnabled then .background else .halted
    pc := even20 (Config.anyAddr s.draws) }

/-- A bus cycle ended by BERR: a double bus fault inside the window, else the latch, whose countdown starts when it
was not yet set (60_exceptions.md R650 to R652). DESIGN CHOICE, log entry 32: the window counts for every access while it
is open, those of BKPT processing between BERR processing and the first instruction of its handler included. -/
def State.noteBerr (s : State) : State :=
  if s.hid.faultWindow then s.doubleBusFault
  else if s.hid.berrLatch then s
  else { s with
    hid := { s.hid with berrLatch := true, berrWait := if s.platform.berrDelay then 1 else 0 } }

/-- What the platform's signals do after an access: BERR is noted, and BKPT on a data-space access makes a
breakpoint pending (60_exceptions.md R650, R660). -/
def State.noteAccess (sp : Space) (write : Bool) (cycles : List Addr) (s : State) : State :=
  let s1 := if s.busError sp write cycles then s.noteBerr else s
  if (sp == .data) && s1.bkptHit sp write cycles then { s1 with hid := { s1.hid with bkptPending := true } } else s1

/-! ### Memory -/

/-- The byte array of a space (20_memory.md R94). -/
def State.space (sp : Space) (s : State) : Memory :=
  match sp with
  | .data => s.mem
  | .program => if s.platform.splitSpaces then s.pmem else s.mem

/-- The byte at an address, with no bus cycle. -/
def State.peek (sp : Space) (a : Addr) (s : State) : Byte := Memory.get (s.space sp) a.toNat

/-- Store a byte, with no bus cycle, and record the place (log entry 6). -/
def State.poke (sp : Space) (a : Addr) (v : Byte) (s : State) : State :=
  if (sp == .program) && s.platform.splitSpaces then
    { s with pmem := Memory.set s.pmem a.toNat v, stores := (.program, a) :: s.stores }
  else { s with mem := Memory.set s.mem a.toNat v, stores := (.data, a) :: s.stores }

/-- The big-endian word at an address, with no bus cycle (20_memory.md R100, R102). -/
def State.peekWord (sp : Space) (a : Addr) (s : State) : Word := s.peek sp a ++ s.peek sp (a + 1)

/-- The writes of other bus masters, in order; they are no stores of the step (20_memory.md R125). -/
def State.applyWrites (ws : List MasterWrite) (s : State) : State :=
  match ws with
  | [] => s
  | w :: rest => { s.poke w.space w.addr w.value with stores := s.stores }.applyWrites rest

/-- The place before a bus cycle where other bus masters may write, on a platform that has them: the next writes of
the inputs are made (20_memory.md R122, R125; log entry 21). -/
def State.masters (s : State) : State :=
  if s.platform.externalMasters then
    match s.pins.writes with
    | [] => s
    | now :: later => { s with pins := { s.pins with writes := later } }.applyWrites now
  else s

/-- The byte a bus cycle delivers: `any value` when it ends in BERR (20_memory.md R111). -/
def State.busReadByte (sp : Space) (a : Addr) (s0 : State) : Byte × State :=
  let s := s0.masters
  if s.busError sp false [a] then (Config.anyByte s.draws, s.bump) else (s.peek sp a, s)

/-- The word an access delivers: `any value` when a cycle of it ends in BERR (20_memory.md R111). -/
def State.busReadWord (sp : Space) (a : Addr) (s0 : State) : Word × State :=
  let s1 := s0.masters
  let s2 := s1.masters
  if s2.busError sp false (wordCycles a) then (Config.anyWord s2.draws, s2.bump)
  else (s1.peek sp a ++ s2.peek sp (a + 1), s2)

/-- Store a byte whose bus cycle ended in BERR: whether the location changed is `any value`
(20_memory.md R111; 93_implementation_defined.md U9). -/
def State.pokeMaybe (sp : Space) (a : Addr) (v : Byte) (s : State) : State :=
  s.bump.poke sp a (if Config.anyBit s.draws then v else s.peek sp a)

/-- The effect on memory of a byte write. -/
def State.busWriteByte (sp : Space) (a : Addr) (v : Byte) (s0 : State) : State :=
  let s := s0.masters
  if s.busError sp true [a] then s.pokeMaybe sp a v else s.poke sp a v

/-- The effect on memory of a word write, most significant byte first (20_memory.md R100, R106). -/
def State.busWriteWord (sp : Space) (a : Addr) (v : Word) (s0 : State) : State :=
  let s := s0.masters
  if s.busError sp true (wordCycles a) then (s.pokeMaybe sp a (hi v)).masters.pokeMaybe sp (a + 1) (lo v)
  else (s.poke sp a (hi v)).masters.poke sp (a + 1) (lo v)

/-- The two words a long-word access delivers: both are `any value` when a cycle of it ends in BERR
(20_memory.md R101, R111). -/
def State.busReadLong (sp : Space) (a : Addr) (s0 : State) : (Word × Word) × State :=
  let s1 := s0.masters
  let s2 := s1.masters
  let s3 := s2.masters
  let s4 := s3.masters
  if s4.busError sp false (longCycles a) then
    ((Config.anyWord s4.draws, Config.anyWord (s4.draws + 1)), s4.bump.bump)
  else ((s1.peek sp a ++ s2.peek sp (a + 1), s3.peek sp (a + 2) ++ s4.peek sp (a + 2 + 1)), s4)

/-- The effect on memory of a long-word write, most significant byte first: when a cycle of it ends in BERR, whether each
of the four bytes changed is `any value` (20_memory.md R100, R101, R111). -/
def State.busWriteLong (sp : Space) (a : Addr) (high low : Word) (s0 : State) : State :=
  let s := s0.masters
  if s.busError sp true (longCycles a) then
    (((s.pokeMaybe sp a (hi high)).masters.pokeMaybe sp (a + 1) (lo high)).masters.pokeMaybe sp (a + 2)
      (hi low)).masters.pokeMaybe sp (a + 2 + 1) (lo low)
  else
    (((s.poke sp a (hi high)).masters.poke sp (a + 1) (lo high)).masters.poke sp (a + 2) (hi low)).masters.poke sp
      (a + 2 + 1) (lo low)

/-- `MemRead(a, 1)` in data space (00_scope.md R5). -/
def State.readByte (a : Addr) (s : State) : Byte × State :=
  let p := s.busReadByte .data a
  (p.1, p.2.noteAccess .data false [a])

/-- `MemRead(a, 2)` in data space (00_scope.md R5). -/
def State.readWord (a : Addr) (s : State) : Word × State :=
  let p := s.busReadWord .data a
  (p.1, p.2.noteAccess .data false (wordCycles a))

/-- `ProgRead(a)`: the instruction word at an even address of program space (20_memory.md R96). -/
def State.progRead (a : Addr) (s : State) : Word × State :=
  let p := s.busReadWord .program a
  (p.1, p.2.noteAccess .program false (wordCycles a))

/-- `MemWrite(a, 1, v)` in data space (00_scope.md R5). -/
def State.writeByte (a : Addr) (v : Byte) (s : State) : State :=
  (s.busWriteByte .data a v).noteAccess .data true [a]

/-- `MemWrite(a, 2, v)` in data space (00_scope.md R5). -/
def State.writeWord (a : Addr) (v : Word) (s : State) : State :=
  (s.busWriteWord .data a v).noteAccess .data true (wordCycles a)

/-! ### The stack (10_state.md R33) -/

/-- `push16`. -/
def State.pushWord (v : Word) (s : State) : State :=
  (s.writeWord s.skSp v).setSkSp (s.skSp - 2)

/-- `pull16`. -/
def State.pullWord (s : State) : Word × State := (s.setSkSp (s.skSp + 2)).readWord (s.skSp + 2)

/-- `push8`: the byte goes to SK:SP + 1 and the pointer falls by 1. -/
def State.pushByte (v : Byte) (s : State) : State :=
  (s.writeByte (s.skSp + 1) v).setSkSp (s.skSp - 1)

/-- `pull8`: the byte comes from SK:SP + 2 and the pointer rises by 1. -/
def State.pullByte (s : State) : Byte × State :=
  let p := s.readByte (s.skSp + 2)
  (p.1, p.2.setSkSp (s.skSp + 1))

/-- The two-word frame of a call or an exception: the PC word, then CCR with the bank of the stacked address in its
low nibble (44_program_control.md R438, 60_exceptions.md R680). -/
def State.pushFrame (ret : Addr) (s : State) : State :=
  (s.pushWord (offset ret)).pushWord (s.ccr.pack (bank ret))

/-! ### Taking an exception -/

/-- The exceptions that stack a frame (60_exceptions.md R635). -/
inductive ExcKind where
  | bkpt
  | berr
  | swi
  | illegal
  | divZero
  | interrupt (level : BitVec 3)
deriving DecidableEq, Repr

/-- The platform's answer to the acknowledge cycle of a level (60_exceptions.md R670; default AVEC, R12). -/
def iackAnswer (p : Platform) (level : BitVec 3) : IackAnswer := p.iack.getD (level.toNat - 1) .avec

/-- The vector number of an exception (60_exceptions.md R632, R670, R683). -/
def vectorNumber (p : Platform) (k : ExcKind) : Nat :=
  match k with
  | .bkpt => 4
  | .berr => 5
  | .swi => 6
  | .illegal => 7
  | .divZero => 8
  | .interrupt level =>
    match iackAnswer p level with
    | .vector n => n.toNat
    | .avec => 0x10 + level.toNat
    | .berr => 0x18

/-- The address of a vector in bank 0: twice its number (60_exceptions.md R631). -/
def vectorAddress (n : Nat) : Addr := BitVec.ofNat 20 (2 * n)

/-- The CPU-space cycle of an exception and what goes with it: an interrupt sets IP to its level, runs IACK and, at
level 7, takes the pending request; a breakpoint runs its acknowledge cycle (60_exceptions.md R661, R670, R683). -/
def State.acknowledge (k : ExcKind) (s : State) : State :=
  match k with
  | .interrupt level =>
    { s with
      ccr := { s.ccr with ip := level }
      hid := { s.hid with irq7Pending := s.hid.irq7Pending && !(level == 7#3) }
      events := s.events ++ [.iack level] }
  | .bkpt => { s with events := s.events ++ [.bkptAck] }
  | _ => s

/-- Write `run_state` (10_state.md R58). -/
def State.setRun (r : RunState) (s : State) : State := { s with run := r }

/-- Start a handler: its first instruction is protected from interrupts but not from BERR (60_exceptions.md R644). -/
def State.beginHandler (target : Addr) (s : State) : State :=
  { s.jumpTo target with hid := { s.hid with irqInhibit := true } }

/-- The last phase: the vector word is read from data space and loaded into PC with PK clear (60_exceptions.md R633,
R683). -/
def State.enterHandler (k : ExcKind) (s : State) : State :=
  let p := s.readWord (vectorAddress (vectorNumber s.platform k))
  if p.2.run = .running then p.2.beginHandler (zext20 p.1) else p.2

/-- One of the data-space transfers of exception processing through vector `n` ends in BERR: the push of PC, the push of
CCR or the vector read (60_exceptions.md R683). -/
def State.entryError (n : Nat) (s : State) : Bool :=
  s.busError .data true (wordCycles s.skSp) || s.busError .data true (wordCycles (s.skSp - 2)) ||
    s.busError .data false (wordCycles (vectorAddress n))

/-- A bus error that occurs during exception processing is due at the next boundary, before the first instruction of the
handler, whatever BERR_DELAY is; one latched before keeps its countdown (60_exceptions.md R644, R651; log entry 9). -/
def State.berrAtOnce (error : Bool) (s : State) : State :=
  if error then { s with hid := { s.hid with berrWait := 0 } } else s

/-- The bytes of the first `words` words of a frame stacked from `top` down (60_exceptions.md R680). -/
def frameAddresses (top : Addr) (words : Nat) : List Addr :=
  (List.range words).flatMap fun k => [top - BitVec.ofNat 20 (2 * k), top - BitVec.ofNat 20 (2 * k) + 1]

/-- Bytes of data space that become `any value`, each its own (93_implementation_defined.md U10). -/
def State.looseBytes (places : List Addr) (s : State) : State :=
  match places with
  | [] => s
  | a :: rest => (s.bump.poke .data a (Config.anyByte s.draws)).looseBytes rest

/-- Exception processing abandoned by a double bus fault after `words` words of the frame were begun: each byte of them is
`any value`, and SK:SP is one of the places it has passed (60_exceptions.md R652; 93_implementation_defined.md U10; log
entry 10). -/
def State.abandonFrame (top : Addr) (words : Nat) (s : State) : State :=
  let t := s.looseBytes (frameAddresses top words)
  t.bump.bump.setSkSp
    (if Config.anyBit t.draws then top
      else if Config.anyBit (t.draws + 1) then top - 2 else top - BitVec.ofNat 20 (2 * words))

/-- Exception processing, common to every exception but RESET (60_exceptions.md R683): stack PK:PC and CCR at
SK:SP, clear PK, acknowledge, fetch the vector, go to the handler. `ret` is the stacked 20-bit value (R681, R682).
A double bus fault abandons it where it stands (R652; log entry 10). -/
def State.takeException (k : ExcKind) (ret : Addr) (s : State) : State :=
  let s1 := (s.setRun .running).pushWord (offset ret)
  if s1.run = .running then
    let s2 := s1.pushWord (s.ccr.pack (bank ret))
    if s2.run = .running then
      let s3 := (s2.acknowledge k).enterHandler k
      if s3.run = .running then s3.berrAtOnce (s.entryError (vectorNumber s.platform k)) else s3.abandonFrame s.skSp 2
    else s2.abandonFrame s.skSp 2
  else s1.abandonFrame s.skSp 1

/-- RTI: CCR whole and PC come back from the frame, and 6 is subtracted (44_program_control.md R443). -/
def State.returnFromException (s : State) : State :=
  let p := s.pullWord
  let q := (p.2.writeCcr (Ccr.unpack p.1)).pullWord
  q.2.jumpTo ((p.1.extractLsb' 0 4 ++ q.1) - 6)

/-- RTS: PK and PC come back from the frame, and 2 is subtracted (44_program_control.md R442). -/
def State.returnFromSubroutine (s : State) : State :=
  let p := s.pullWord
  let q := p.2.pullWord
  q.2.jumpTo ((p.1.extractLsb' 0 4 ++ q.1) - 2)

end Sys2Proof.Machine
end

