-- ==== Sys2Proof/Machine/Flags.lean ====
section
/-!
DEFINITION. The flag computations and the value-and-flag operations of the arithmetic, logic and shift instructions
(spec 41_add_sub_compare.md R240, 42_mul_div_inc_clr.md, 43_logic_bit_shift.md R340, R359), and the branch
conditions (44_program_control.md R400).
-/

namespace Sys2Proof.Machine

/-- An operation on one operand: the result, and the CCR after. -/
abbrev Un (w : Nat) := BitVec w → Ccr → BitVec w × Ccr

/-- An operation on a register operand and a second operand: the result, and the CCR after. -/
abbrev Bin (w : Nat) := BitVec w → BitVec w → Ccr → BitVec w × Ccr

/-- N and Z of a result, V cleared: loads, stores, moves, transfers and logic (R201, R340). -/
def Ccr.logic {w : Nat} (r : BitVec w) (c : Ccr) : Ccr := { c with n := r.msb, z := r == 0#w, v := false }

/-- N and Z of a value, V and C cleared: TST and its forms (R268). -/
def Ccr.test {w : Nat} (r : BitVec w) (c : Ccr) : Ccr :=
  { c with n := r.msb, z := r == 0#w, v := false, c := false }

/-! ### Addition and subtraction (R240) -/

/-- The exact sum of R240. -/
def exactSum {w : Nat} (x y : BitVec w) (cin : Bool) : Nat := x.toNat + y.toNat + cin.toNat

/-- The exact difference of R240. -/
def exactDiff {w : Nat} (x y : BitVec w) (cin : Bool) : Int := (x.toNat : Int) - y.toNat - cin.toNat

/-- `addW` of R240: the result, with N, Z, V and C. -/
def addW {w : Nat} (x y : BitVec w) (cin : Bool) (c : Ccr) : BitVec w × Ccr :=
  let r := BitVec.ofNat w (exactSum x y cin)
  (r, { c with
    n := r.msb
    z := r == 0#w
    v := (x.msb == y.msb) && !(r.msb == x.msb)
    c := decide (2 ^ w ≤ exactSum x y cin) })

/-- The half carry of the 8-bit additions: a carry out of bit 3 (R240). -/
def halfCarry (x y : Byte) (cin : Bool) : Bool := decide (16 ≤ x.toNat % 16 + y.toNat % 16 + cin.toNat)

/-- `add8` of R240, which writes H as well. -/
def add8 (x y : Byte) (cin : Bool) (c : Ccr) : Byte × Ccr :=
  let p := addW x y cin c
  (p.1, { p.2 with h := halfCarry x y cin })

/-- `subW` of R240: the result, with N, Z, V and the borrow in C. -/
def subW {w : Nat} (x y : BitVec w) (cin : Bool) (c : Ccr) : BitVec w × Ccr :=
  let r := BitVec.ofInt w (exactDiff x y cin)
  (r, { c with
    n := r.msb
    z := r == 0#w
    v := !(x.msb == y.msb) && !(r.msb == x.msb)
    c := decide (exactDiff x y cin < 0) })

/-- ADDA, ADDB, ABA (R241, R246). -/
def opAdd8 : Bin 8 := fun x y c => add8 x y false c

/-- ADCA, ADCB (R242). -/
def opAdc8 : Bin 8 := fun x y c => add8 x y c.c c

/-- The 16-bit additions, which leave H (R248). -/
def opAdd16 : Bin 16 := fun x y c => addW x y false c

/-- ADCD, ADCE (R244). -/
def opAdc16 : Bin 16 := fun x y c => addW x y c.c c

/-- Subtraction and comparison (R257, R264). -/
def opSub {w : Nat} : Bin w := fun x y c => subW x y false c

/-- Subtraction with borrow (R252). -/
def opSbc {w : Nat} : Bin w := fun x y c => subW x y c.c c

/-! ### Loads and logic (R201, R340) -/

/-- A load: the second operand, with N and Z of it and V cleared (R201). -/
def opLoad {w : Nat} : Bin w := fun _ y c => (y, c.logic y)

/-- AND (R341); also BITA and BITB, which discard the result (R353). -/
def opAnd {w : Nat} : Bin w := fun x y c => (x &&& y, c.logic (x &&& y))

/-- Inclusive OR (R349). -/
def opOr {w : Nat} : Bin w := fun x y c => (x ||| y, c.logic (x ||| y))

/-- Exclusive OR (R345). -/
def opEor {w : Nat} : Bin w := fun x y c => (x ^^^ y, c.logic (x ^^^ y))

/-- Clear the bits of a mask (R355). -/
def opBclr {w : Nat} (mask : BitVec w) : Un w := fun v c => (v &&& ~~~mask, c.logic (v &&& ~~~mask))

/-- Set the bits of a mask (R357). -/
def opBset {w : Nat} (mask : BitVec w) : Un w := fun v c => (v ||| mask, c.logic (v ||| mask))

/-! ### Decrement, increment, clear, complement, negate -/

/-- DEC: V when the operand is the most negative number; C stays (R299). -/
def opDec {w : Nat} : Un w := fun v c =>
  (v - 1#w, { c with n := (v - 1#w).msb, z := v - 1#w == 0#w, v := v == BitVec.intMin w })

/-- INC: V when the operand is the most positive number; C stays (R303). -/
def opInc {w : Nat} : Un w := fun v c =>
  (v + 1#w, { c with n := (v + 1#w).msb, z := v + 1#w == 0#w, v := v == BitVec.intMax w })

/-- CLR: N, V, C cleared and Z set (R307). -/
def opClr {w : Nat} : Un w := fun _ c => (0#w, { c with n := false, z := true, v := false, c := false })

/-- COM: V cleared, C set (R313). -/
def opCom {w : Nat} : Un w := fun v c =>
  (~~~v, { c with n := (~~~v).msb, z := ~~~v == 0#w, v := false, c := true })

/-- NEG: V when the result is the most negative number, C when the operand is not zero (R319). -/
def opNeg {w : Nat} : Un w := fun v c =>
  (-v, { c with n := (-v).msb, z := -v == 0#w, v := -v == BitVec.intMin w, c := !(v == 0#w) })

/-- TST: the operand as it is, N and Z of it, V and C cleared (R268). -/
def opTst {w : Nat} : Un w := fun v c => (v, c.test v)

/-! ### Shifts and rotates (R359) -/

/-- The flags of every shift and rotate: N and Z of the result, the shifted-out bit in C, V = N xor C (R359). -/
def Ccr.shift {w : Nat} (r : BitVec w) (out : Bool) (c : Ccr) : Ccr :=
  { c with n := r.msb, z := r == 0#w, c := out, v := r.msb ^^ out }

/-- ASL (R360). -/
def opAsl {w : Nat} : Un w := fun v c => (v <<< 1, c.shift (v <<< 1) v.msb)

/-- ASR: the top bit is held (R366). -/
def opAsr {w : Nat} : Un w := fun v c => (v.sshiftRight 1, c.shift (v.sshiftRight 1) (v.getLsbD 0))

/-- LSR (R372). -/
def opLsr {w : Nat} : Un w := fun v c => (v >>> 1, c.shift (v >>> 1) (v.getLsbD 0))

/-- ROL: bit 0 comes from C (R378). -/
def rolValue {w : Nat} (v : BitVec w) (cin : Bool) : BitVec w := (v <<< 1) ||| (BitVec.ofBool cin).setWidth w

/-- ROL with its flags (R378). -/
def opRol {w : Nat} : Un w := fun v c => (rolValue v c.c, c.shift (rolValue v c.c) v.msb)

/-- ROR: the top bit comes from C (R384). -/
def rorValue {w : Nat} (v : BitVec w) (cin : Bool) : BitVec w :=
  (v >>> 1) ||| ((BitVec.ofBool cin).setWidth w <<< (w - 1))

/-- ROR with its flags (R384). -/
def opRor {w : Nat} : Un w := fun v c => (rorValue v c.c, c.shift (rorValue v c.c) (v.getLsbD 0))

/-! ### Branch conditions (R400) -/

/-- BRA (R413). -/
def condRa : Ccr → Bool := fun _ => true

/-- BRN (R414). -/
def condRn : Ccr → Bool := fun _ => false

/-- BHI: C + Z = 0 (R406). -/
def condHi : Ccr → Bool := fun c => !(c.c || c.z)

/-- BLS: C + Z = 1 (R408). -/
def condLs : Ccr → Bool := fun c => c.c || c.z

/-- BCC: C = 0 (R401). -/
def condCc : Ccr → Bool := fun c => !c.c

/-- BCS: C = 1 (R402). -/
def condCs : Ccr → Bool := fun c => c.c

/-- BNE: Z = 0 (R411). -/
def condNe : Ccr → Bool := fun c => !c.z

/-- BEQ: Z = 1 (R403). -/
def condEq : Ccr → Bool := fun c => c.z

/-- BVC: V = 0 (R415). -/
def condVc : Ccr → Bool := fun c => !c.v

/-- BVS: V = 1 (R416). -/
def condVs : Ccr → Bool := fun c => c.v

/-- BPL: N = 0 (R412). -/
def condPl : Ccr → Bool := fun c => !c.n

/-- BMI: N = 1 (R410). -/
def condMi : Ccr → Bool := fun c => c.n

/-- BGE: N xor V = 0 (R404). -/
def condGe : Ccr → Bool := fun c => !(c.n ^^ c.v)

/-- BLT: N xor V = 1 (R409). -/
def condLt : Ccr → Bool := fun c => c.n ^^ c.v

/-- BGT: Z + (N xor V) = 0 (R405). -/
def condGt : Ccr → Bool := fun c => !(c.z || (c.n ^^ c.v))

/-- BLE: Z + (N xor V) = 1 (R407). -/
def condLe : Ccr → Bool := fun c => c.z || (c.n ^^ c.v)

/-- LBMV: MV = 1 (R428). -/
def condMv : Ccr → Bool := fun c => c.mv

/-- LBEV: EV = 1 (R420). -/
def condEv : Ccr → Bool := fun c => c.ev

end Sys2Proof.Machine
end

