-- ==== Sys2Proof/Machine/Operands.lean ====
section
/-!
DEFINITION. The operand forms (spec 30_encoding.md R160 to R171): effective addresses, lengths, reading a source,
and the shapes that most instructions are: a register with a source, a register alone, a store, a
read-modify-write, a branch.
-/

namespace Sys2Proof.Machine

/-! ### Effective addresses and lengths -/

/-- The effective address of a memory operand (30_encoding.md R163, R165, R166, R168). -/
def ea (m : MemOp) (s : State) : Addr :=
  match m with
  | .ind8 r ff => s.pointer r + zext20b ff
  | .ind16 r gggg => s.pointer r + sext20 gggg
  | .ext hhll => s.ek ++ hhll
  | .eoff r => s.pointer r + sext20 s.e

/-- The length of an instruction with this memory operand and no other operand (30_encoding.md R154). -/
def memLen (m : MemOp) : Addr :=
  match m with
  | .ind8 _ _ => 2
  | .ind16 _ _ => 4
  | .ext _ => 4
  | .eoff _ => 2

/-- The length of an instruction with this byte source. -/
def src8Len (src : Src8) : Addr :=
  match src with
  | .imm _ => 2
  | .mem m => memLen m

/-- The length of an instruction with this word source. -/
def src16Len (src : Src16) : Addr :=
  match src with
  | .imm8 _ => 2
  | .imm16 _ => 4
  | .mem m => memLen m

/-- The value of a byte source (30_encoding.md R161; 40_data_movement.md R200). -/
def readSrc8 (src : Src8) (s : State) : Byte × State :=
  match src with
  | .imm ii => (ii, s)
  | .mem m => s.readByte (ea m s)

/-- The value of a word source; IMM8 is sign-extended (30_encoding.md R161, R162). -/
def readSrc16 (src : Src16) (s : State) : Word × State :=
  match src with
  | .imm8 ii => (sext16 ii, s)
  | .imm16 jjkk => (jjkk, s)
  | .mem m => s.readWord (ea m s)

/-- The 20-bit sign extension of the immediate of AIS, AIX, AIY, AIZ (R479, R540). -/
def immValue (i : Imm) : Addr :=
  match i with
  | .imm8 ii => sext20b ii
  | .imm16 jjkk => sext20 jjkk

/-- The length of AIS, AIX, AIY, AIZ. -/
def immLen (i : Imm) : Addr :=
  match i with
  | .imm8 _ => 2
  | .imm16 _ => 4

/-- The target of JMP and JSR: EXT20, or the zero-extended index register plus the 20-bit offset; no extension field
takes part (30_encoding.md R164, R167). -/
def jmpTarget (op : JmpOp) (s : State) : Addr :=
  match op with
  | .ext20 target => target
  | .ind20 r off => zext20 (s.index r) + off

/-- The source address of a move (40_data_movement.md R206). -/
def movSrc (op : MovOp) (s : State) : Addr :=
  match op with
  | .ixpToExt _ _ => s.pointer .x
  | .extToIxp _ hhll => s.ek ++ hhll
  | .extToExt src _ => s.ek ++ src

/-- The destination address of a move (40_data_movement.md R206). -/
def movDst (op : MovOp) (s : State) : Addr :=
  match op with
  | .ixpToExt _ hhll => s.ek ++ hhll
  | .extToIxp _ _ => s.pointer .x
  | .extToExt _ dst => s.ek ++ dst

/-- The length of a move. -/
def movLen (op : MovOp) : Addr :=
  match op with
  | .ixpToExt _ _ => 4
  | .extToIxp _ _ => 4
  | .extToExt _ _ => 6

/-- The post-modification of XK : IX by the IXP forms; `base` is XK : IX before the instruction
(30_encoding.md R170). -/
def movPost (op : MovOp) (base : Addr) (s : State) : State :=
  match op with
  | .ixpToExt ff _ => s.setPointer .x (base + sext20b ff)
  | .extToIxp ff _ => s.setPointer .x (base + sext20b ff)
  | .extToExt _ _ => s

/-- The data address of a bit-condition branch (44_program_control.md R435). -/
def brEa (op : BrOp) (s : State) : Addr :=
  match op with
  | .ind8 r ff _ => s.pointer r + zext20b ff
  | .ind16 r gggg _ => s.pointer r + sext20 gggg
  | .ext hhll _ => s.ek ++ hhll

/-- The sign-extended offset of a bit-condition branch (44_program_control.md R435). -/
def brOff (op : BrOp) : Addr :=
  match op with
  | .ind8 _ _ rr => sext20b rr
  | .ind16 _ _ rrrr => sext20 rrrr
  | .ext _ rrrr => sext20 rrrr

/-- The length of a bit-condition branch. -/
def brLen (op : BrOp) : Addr :=
  match op with
  | .ind8 _ _ _ => 4
  | .ind16 _ _ _ => 6
  | .ext _ _ => 6

/-! ### Registers by name -/

/-- The 8-bit accumulators. -/
inductive R8 where
  | a
  | b
deriving DecidableEq, Repr

/-- The 16-bit registers that the regular instruction shapes name. -/
inductive R16 where
  | d
  | e
  | ix
  | iy
  | iz
  | sp
deriving DecidableEq, Repr

/-- Read an 8-bit accumulator. -/
def getR8 (r : R8) (s : State) : Byte :=
  match r with
  | .a => s.a
  | .b => s.b

/-- Write an 8-bit accumulator. -/
def setR8 (r : R8) (v : Byte) (s : State) : State :=
  match r with
  | .a => { s with a := v }
  | .b => { s with b := v }

/-- Read a 16-bit register. -/
def getR16 (r : R16) (s : State) : Word :=
  match r with
  | .d => s.d
  | .e => s.e
  | .ix => s.ix
  | .iy => s.iy
  | .iz => s.iz
  | .sp => s.sp

/-- Write a 16-bit register; no extension field changes. -/
def setR16 (r : R16) (v : Word) (s : State) : State :=
  match r with
  | .d => s.setD v
  | .e => { s with e := v }
  | .ix => { s with ix := v }
  | .iy => { s with iy := v }
  | .iz => { s with iz := v }
  | .sp => { s with sp := v }

/-- Write the flags an instruction's result gives. No instruction result changes IP, so no request becomes pending
(10_state.md R49). -/
def State.setFlags (c : Ccr) (s : State) : State := { s with ccr := c }

/-! ### Instruction shapes (40_data_movement.md R200) -/

/-- An 8-bit accumulator and a byte source; the result goes to the accumulator. -/
def bin8 (op : Bin 8) (r : R8) (src : Src8) (s : State) : Out :=
  let p := readSrc8 src s
  let q := op (getR8 r s) p.1 s.ccr
  .next (((setR8 r q.1 p.2).setFlags q.2).advance (src8Len src))

/-- An 8-bit accumulator and a byte source; only the flags are written. -/
def cmp8 (op : Bin 8) (r : R8) (src : Src8) (s : State) : Out :=
  let p := readSrc8 src s
  .next ((p.2.setFlags (op (getR8 r s) p.1 s.ccr).2).advance (src8Len src))

/-- A 16-bit register and a word source; the result goes to the register. -/
def bin16 (op : Bin 16) (r : R16) (src : Src16) (s : State) : Out :=
  let p := readSrc16 src s
  let q := op (getR16 r s) p.1 s.ccr
  .next (((setR16 r q.1 p.2).setFlags q.2).advance (src16Len src))

/-- A 16-bit register and a word source; only the flags are written. -/
def cmp16 (op : Bin 16) (r : R16) (src : Src16) (s : State) : Out :=
  let p := readSrc16 src s
  .next ((p.2.setFlags (op (getR16 r s) p.1 s.ccr).2).advance (src16Len src))

/-- An inherent operation with destination `r`, first operand `x` and second operand `y`, 8 bits. -/
def reg8 (op : Bin 8) (r : R8) (x y : Byte) (s : State) : Out :=
  let q := op x y s.ccr
  .next (((setR8 r q.1 s).setFlags q.2).advance 2)

/-- An inherent operation with destination `r`, first operand `x` and second operand `y`, 16 bits. -/
def reg16 (op : Bin 16) (r : R16) (x y : Word) (s : State) : Out :=
  let q := op x y s.ccr
  .next (((setR16 r q.1 s).setFlags q.2).advance 2)

/-- An inherent operation on one 8-bit accumulator. -/
def un8 (op : Un 8) (r : R8) (s : State) : Out :=
  let q := op (getR8 r s) s.ccr
  .next (((setR8 r q.1 s).setFlags q.2).advance 2)

/-- An inherent operation on one 16-bit register. -/
def un16 (op : Un 16) (r : R16) (s : State) : Out :=
  let q := op (getR16 r s) s.ccr
  .next (((setR16 r q.1 s).setFlags q.2).advance 2)

/-- A store of a byte, with N and Z of the value stored and V cleared (R208). -/
def store8 (v : Byte) (m : MemOp) (s : State) : Out :=
  .next (((s.writeByte (ea m s) v).setFlags (s.ccr.logic v)).advance (memLen m))

/-- A store of a word, with N and Z of the value stored and V cleared (R210). -/
def store16 (v : Word) (m : MemOp) (s : State) : Out :=
  .next (((s.writeWord (ea m s) v).setFlags (s.ccr.logic v)).advance (memLen m))

/-- A read-modify-write of a byte: one read, then one write (R290 item 4). -/
def rmw8 (op : Un 8) (m : MemOp) (len : Addr) (s : State) : Out :=
  let p := s.readByte (ea m s)
  let q := op p.1 s.ccr
  .next (((p.2.writeByte (ea m s) q.1).setFlags q.2).advance len)

/-- A read-modify-write of a word: one read, then one write (R290 item 4). -/
def rmw16 (op : Un 16) (m : MemOp) (len : Addr) (s : State) : Out :=
  let p := s.readWord (ea m s)
  let q := op p.1 s.ccr
  .next (((p.2.writeWord (ea m s) q.1).setFlags q.2).advance len)

/-- The test of a memory byte: one read, no write (R268). -/
def test8 (m : MemOp) (s : State) : Out :=
  let p := s.readByte (ea m s)
  .next ((p.2.setFlags (s.ccr.test p.1)).advance (memLen m))

/-- The test of a memory word: one read, no write (R273). -/
def test16 (m : MemOp) (s : State) : Out :=
  let p := s.readWord (ea m s)
  .next ((p.2.setFlags (s.ccr.test p.1)).advance (memLen m))

/-- The clear of a memory byte: one write, no read (R307, R290 item 4). -/
def clear8 (m : MemOp) (s : State) : Out :=
  let q := (opClr : Un 8) 0#8 s.ccr
  .next (((s.writeByte (ea m s) q.1).setFlags q.2).advance (memLen m))

/-- The clear of a memory word: one write, no read (R312, R290 item 4). -/
def clear16 (m : MemOp) (s : State) : Out :=
  let q := (opClr : Un 16) 0#16 s.ccr
  .next (((s.writeWord (ea m s) q.1).setFlags q.2).advance (memLen m))

/-- A branch of `len` bytes with base `ia + 6` (30_encoding.md R171; 44_program_control.md R400). -/
def branchIf (taken : Bool) (off len : Addr) (s : State) : State :=
  if taken then s.jumpTo (s.vpc + off) else s.advance len

/-- A short conditional branch (R400). -/
def shortBranch (cond : Ccr → Bool) (rr : Byte) (s : State) : Out :=
  .next (branchIf (cond s.ccr) (sext20b rr) 2 s)

/-- A long conditional branch (R400). -/
def longBranch (cond : Ccr → Bool) (rrrr : Word) (s : State) : Out :=
  .next (branchIf (cond s.ccr) (sext20 rrrr) 4 s)

end Sys2Proof.Machine
end

