-- ==== Sys2Proof/Machine/Dsp.lean ====
section
/-!
DEFINITION. Digital signal processing: the MAC unit (spec 47_dsp.md).
-/

namespace Sys2Proof.Machine

/-- AM[35:31] are not all equal (R572); `v` is AM[35:31]. -/
def extOverflow (v : BitVec 5) : Bool := !((v == 0#5) || (v == 31#5))

/-- AM[35:31] (R572). -/
def guardBits (am : Acc) : BitVec 5 := am.extractLsb' 31 5

/-- `update_mv` of R573 and R574: a sign overflow sets MV and, when MV was clear, latches `sign` in SL. -/
def updateMv (sov sign : Bool) (s : State) : State :=
  { s with
    ccr := { s.ccr with mv := s.ccr.mv || sov }
    mac := { s.mac with sl := if sov && !s.ccr.mv then sign else s.mac.sl } }

/-- The sum does not fit 36 bits (R571). -/
def signOverflow (t : Int) : Bool := decide (t < -(2 ^ 35)) || decide (2 ^ 35 ≤ t)

/-- `am_add` of R571: AM <- AM + x, with MV, SL and EV. -/
def amAdd (x : Int) (s : State) : State :=
  let t := s.mac.am.toInt + x
  let am := BitVec.ofInt 36 t
  let u := updateMv (signOverflow t) am.msb { s with mac := { s.mac with am := am } }
  { u with ccr := { u.ccr with ev := extOverflow (guardBits am) || signOverflow t } }

/-- Write AM with MV and EV cleared and SL kept (R579, R588, R589). -/
def loadAm (am : Acc) (s : State) : State :=
  { s with mac := { s.mac with am := am }, ccr := { s.ccr with mv := false, ev := false } }

/-- LDHI (R582): HR <- the word at XK : IX, then IR <- the word at YK : IY. -/
def execLdhi (s : State) : Out :=
  let p := s.readWord (s.pointer .x)
  let q := p.2.readWord (s.pointer .y)
  .next ({ q.2 with mac := { s.mac with hr := p.1, ir := q.1 } }.advance 2)

/-- TDMSK (R583): XMSK : YMSK <- D. -/
def execTdmsk (s : State) : Out := .next ({ s with mac := { s.mac with xmsk := s.a, ymsk := s.b } }.advance 2)

/-- TEDM (R588): AM <- E : D sign-extended; MV and EV cleared. -/
def execTedm (s : State) : Out := .next ((loadAm (s.ed.signExtend 36) s).advance 2)

/-- TEM (R589): AM <- E : $0000 sign-extended; MV and EV cleared. -/
def execTem (s : State) : Out := .next ((loadAm ((s.e ++ 0#16).signExtend 36) s).advance 2)

/-- CLRM (R579): AM <- 0; MV and EV cleared. -/
def execClrm (s : State) : Out := .next ((loadAm 0#36 s).advance 2)

/-- The set bits of a mask are right-justified: it is 2^k - 1 (R584). -/
def regularMask (msk : Byte) : Bool := msk &&& (msk + 1#8) == 0#8

/-- `mac_index` of R584 for a regular mask: the masked bits take the sum, the others stay. -/
def macSum (i : Word) (msk : Byte) (o : Nibble) : Word :=
  let sum := i + o.signExtend 16
  if msk = 0#8 then sum
  else (i &&& ~~~(msk.setWidth 16)) ||| (sum &&& msk.setWidth 16)

/-- The index update of MAC and RMAC; the low byte is `any value` under an irregular mask
(R584; 93_implementation_defined.md U5). The extension field stays. -/
def macUpdate (r : Idx) (msk : Byte) (o : Nibble) (s : State) : State :=
  if regularMask msk then s.setIndex r (macSum (s.index r) msk o)
  else s.bump.setIndex r (hi (s.index r) ++ Config.anyByte s.draws)

/-- The aligned product 2 * HR * IR, exact (R580). -/
def macProduct (s : State) : Int := 2 * (s.mac.hr.toInt * s.mac.ir.toInt)

/-- The offset of X in the operand byte (R584). -/
def macXo (xoyo : Byte) : Nibble := xoyo.extractLsb' 4 4

/-- The offset of Y in the operand byte (R584). -/
def macYo (xoyo : Byte) : Nibble := xoyo.extractLsb' 0 4

/-- The two operand reads, at the updated XK : IX and YK : IY (R580; 30_encoding.md R172). -/
def macReload (s : State) : State :=
  let p := s.readWord (s.pointer .x)
  let q := p.2.readWord (s.pointer .y)
  { q.2 with mac := { s.mac with hr := p.1, ir := q.1 } }

/-- Accumulate the product and update both index registers (R580, R581). -/
def macStep (xoyo : Byte) (s : State) : State :=
  macUpdate .y s.mac.ymsk (macYo xoyo) (macUpdate .x s.mac.xmsk (macXo xoyo) (amAdd (macProduct s) s))

/-- MAC (R580): AM <- AM + the product; E : D <- the product; V for -1 times -1; IX and IY updated; IZ <- HR; HR and IR
reloaded. -/
def execMac (xoyo : Byte) (s : State) : Out :=
  let t := macStep xoyo s
  let u := { t.setEd (BitVec.ofInt 32 (macProduct s)) with
    iz := s.mac.hr
    ccr := { t.ccr with v := (s.mac.hr == 0x8000#16) && (s.mac.ir == 0x8000#16) } }
  .next ((macReload u).advance 2)

/-- One iteration of RMAC, count included (R581). -/
def rmacIterate (xoyo : Byte) (s : State) : State :=
  let t := macReload (macStep xoyo s)
  { t with e := t.e - 1#16 }

/-- RMAC completed: E and D are `any value` (R581; 93_implementation_defined.md U6). -/
def rmacFinish (s : State) : State :=
  ({ s with draws := s.draws + 2, e := Config.anyWord s.draws }.setD (Config.anyWord (s.draws + 1))).advance 2

/-- RMAC suspended after an iteration that does not end the loop: the count stays in E, D is `any value`, and the
program counter still points at the RMAC (R594; log entry 13). -/
def rmacSuspend (s : State) : State := s.bump.setD (Config.anyWord s.draws)

/-- The loop of RMAC: iterate until the count is negative, or until the pins suspend it. `fuel` bounds the
iterations; 32769 is the most there are (R581). -/
def rmacLoop (fuel : Nat) (suspend : Option Nat) (xoyo : Byte) (s : State) : State :=
  match fuel with
  | 0 => rmacFinish s
  | n + 1 =>
    let t := rmacIterate xoyo s
    if t.e.msb then rmacFinish t
    else
      match suspend with
      | none => rmacLoop n none xoyo t
      | some 0 => rmacSuspend t
      | some (k + 1) => rmacLoop n (some k) xoyo t

/-- RMAC (R581): MAC without E : D, V and IZ, repeated while the count in E stays non-negative. -/
def execRmac (xoyo : Byte) (s : State) : Out := .next (rmacLoop 32769 s.pins.suspend xoyo s)

/-- ACE (R575): AM <- AM + E aligned with AM[31:16]. -/
def execAce (s : State) : Out := .next ((amAdd (s.e.toInt * 65536) s).advance 2)

/-- ACED (R576): AM <- AM + E : D. -/
def execAced (s : State) : Out := .next ((amAdd s.ed.toInt s).advance 2)

/-- ASLM (R577): AM shifted left; C the old AM[35], N the new one. -/
def execAslm (s : State) : Out :=
  let am := s.mac.am <<< 1
  let sov := !(am.msb == s.mac.am.msb)
  let t := updateMv sov am.msb { s with mac := { s.mac with am := am } }
  .next ((t.setFlags { t.ccr with
    ev := extOverflow (guardBits am) || sov, n := am.msb, c := s.mac.am.msb }).advance 2)

/-- ASRM (R578): AM shifted right, the sign held; C the old AM[0]; MV stays. -/
def execAsrm (s : State) : Out :=
  let am := s.mac.am.sshiftRight 1
  .next (({ s with mac := { s.mac with am := am } }.setFlags { s.ccr with
    ev := extOverflow (guardBits am), n := am.msb, c := s.mac.am.getLsbD 0 }).advance 2)

/-- The SL word of the MAC image: SL in bit 15, AM[35:32] in bits [3:0], bits [14:4] `any value`
(R585; 93_implementation_defined.md U7). `free` supplies them. -/
def slWord (mac : MacUnit) (free : Word) : Word :=
  BitVec.ofBool mac.sl ++ free.extractLsb' 4 11 ++ mac.am.extractLsb' 32 4

/-- SL and AM[35:32] from the SL word (R587). -/
def loadSlWord (w : Word) (mac : MacUnit) : MacUnit :=
  { mac with sl := w.getLsbD 15, am := w.extractLsb' 0 4 ++ mac.am.extractLsb' 0 32 }

/-- AM[15:0] replaced (R587). -/
def loadAmLow (w : Word) (mac : MacUnit) : MacUnit := { mac with am := mac.am.extractLsb' 16 20 ++ w }

/-- AM[31:16] replaced (R587). -/
def loadAmHigh (w : Word) (mac : MacUnit) : MacUnit :=
  { mac with am := mac.am.extractLsb' 32 4 ++ w ++ mac.am.extractLsb' 0 16 }

/-- PSHMAC (R586): the six words of the MAC image are pushed, the masks first. -/
def execPshmac (s : State) : Out :=
  let m := s.mac
  let t := ((s.bump.pushWord (m.xmsk ++ m.ymsk)).pushWord (slWord m (Config.anyWord s.draws))).pushWord
    (m.am.extractLsb' 16 16)
  .next ((((t.pushWord (m.am.extractLsb' 0 16)).pushWord m.ir).pushWord m.hr).advance 2)

/-- PULMAC (R587): the six words of the MAC image are pulled, HR first. -/
def execPulmac (s : State) : Out :=
  let p1 := s.pullWord
  let p2 := p1.2.pullWord
  let p3 := p2.2.pullWord
  let p4 := p3.2.pullWord
  let p5 := p4.2.pullWord
  let p6 := p5.2.pullWord
  let mac := loadSlWord p5.1 (loadAmHigh p4.1 (loadAmLow p3.1 { s.mac with hr := p1.1, ir := p2.1 }))
  .next ({ p6.2 with mac := { mac with xmsk := hi p6.1, ymsk := lo p6.1 } }.advance 2)

/-- The saturation value (R590, Table 11-2). -/
def satValue (c : Ccr) (mac : MacUnit) : Word :=
  if c.mv then (if mac.sl then 0x7FFF#16 else 0x8000#16)
  else if mac.am.msb then 0x8000#16
  else 0x7FFF#16

/-- Saturation applies: SM with EV or MV (R590). -/
def saturates (c : Ccr) : Bool := c.sm && (c.ev || c.mv)

/-- Convergent rounding adds one at bit 16 (R591). -/
def roundsUp (am : Acc) : Bool :=
  decide (0x8000 < (am.extractLsb' 0 16).toNat) ||
    ((am.extractLsb' 0 16 == 0x8000#16) && am.getLsbD 16)

/-- The exact rounded value of AM[35:16] (R591). -/
def roundedHigh (am : Acc) : Int := (am.extractLsb' 16 20).toInt + (roundsUp am).toNat

/-- E <- the value or the saturation value, with N and Z of E (R591, R592). -/
def deliverE (v : Word) (s : State) : State :=
  let r := if saturates s.ccr then satValue s.ccr s.mac else v
  { s with e := r, ccr := { s.ccr with n := r.msb, z := r == 0#16 } }

/-- TMER (R591): AM rounded to E, saturated when SM; MV, EV, N and Z. The flags come before the test (log entry 18). -/
def execTmer (s : State) : Out :=
  let sov := decide (2 ^ 19 ≤ roundedHigh s.mac.am)
  let r := BitVec.ofInt 20 (roundedHigh s.mac.am)
  let t := updateMv sov r.msb s
  let u := { t with ccr := { t.ccr with ev := t.ccr.ev || extOverflow (r.extractLsb' 15 5) || sov } }
  .next ((deliverE (r.extractLsb' 0 16) u).advance 2)

/-- TMET (R592): AM[31:16] to E, saturated when SM; N and Z. -/
def execTmet (s : State) : Out :=
  .next ((deliverE (s.mac.am.extractLsb' 16 16) s).advance 2)

/-- TMXED (R593): IX <- AM[35:32] sign-extended, E <- AM[31:16], D <- AM[15:0]. -/
def execTmxed (s : State) : Out :=
  .next (({ s with
    ix := (s.mac.am.extractLsb' 32 4).signExtend 16
    e := s.mac.am.extractLsb' 16 16 }.setD (s.mac.am.extractLsb' 0 16)).advance 2)

end Sys2Proof.Machine
end

