-- ==== Sys2Proof/Machine/Stacking.lean ====
section
/-!
DEFINITION. Stacking and condition codes (spec 46_stacking_ccr.md).
-/

namespace Sys2Proof.Machine

/-- AIS (R540): SK : SP <- SK : SP + sign-extended immediate; no flag changes. -/
def execAis (i : Imm) (s : State) : Out := .next ((s.setSkSp (s.skSp + immValue i)).advance (immLen i))

/-- CPS (R541): the flags of SP - operand. -/
def execCps (src : Src16) (s : State) : Out := cmp16 opSub .sp src s

/-- LDS (R542): SP <- the operand; SK stays. -/
def execLds (src : Src16) (s : State) : Out := bin16 opLoad .sp src s

/-- STS (R543): the operand <- SP. -/
def execSts (m : MemOp) (s : State) : Out := store16 s.sp m s

/-- PSHA (R544): A is pushed as a byte. -/
def execPsha (s : State) : Out := .next ((s.pushByte s.a).advance 2)

/-- PULA (R546): A is pulled as a byte. -/
def execPula (s : State) : Out :=
  let p := s.pullByte
  .next ({ p.2 with a := p.1 }.advance 2)

/-- PSHB (R545): B is pushed as a byte. -/
def execPshb (s : State) : Out := .next ((s.pushByte s.b).advance 2)

/-- PULB (R547): B is pulled as a byte. -/
def execPulb (s : State) : Out :=
  let p := s.pullByte
  .next ({ p.2 with b := p.1 }.advance 2)

/-- The word PSHM pushes for a mask bit: D, E, IX, IY, IZ, K, CCR for bits 0 to 6, the CCR with the bank of `ia + 6`
in its low nibble (R550; 10_state.md R48). -/
def pshmWord (bit : Nat) (s : State) : Word :=
  match bit with
  | 0 => s.d
  | 1 => s.e
  | 2 => s.ix
  | 3 => s.iy
  | 4 => s.iz
  | 5 => s.k
  | _ => s.ccr.pack (bank s.vpc)

/-- Push the word of one mask bit when the bit is set (R550). -/
def pshmBit (mask : Byte) (bit : Nat) (s : State) : State :=
  if mask.getLsbD bit then s.pushWord (pshmWord bit s) else s

/-- Load the register PULM pulls for a mask bit: CCR[15:4], K, IZ, IY, IX, E, D for bits 0 to 6 (R551). -/
def pulmLoad (bit : Nat) (v : Word) (s : State) : State :=
  match bit with
  | 0 => s.writeCcr (Ccr.unpack v)
  | 1 => s.setK v
  | 2 => { s with iz := v }
  | 3 => { s with iy := v }
  | 4 => { s with ix := v }
  | 5 => { s with e := v }
  | _ => s.setD v

/-- Pull the word of one mask bit when the bit is set (R551). -/
def pulmBit (mask : Byte) (bit : Nat) (s : State) : State :=
  if mask.getLsbD bit then pulmLoad bit s.pullWord.1 s.pullWord.2 else s

/-- The mask bits in the order in which PSHM and PULM take them; bit 7 selects nothing (R550, R551; log entry 17). -/
def maskBits : List Nat := [0, 1, 2, 3, 4, 5, 6]

/-- PSHM (R550): the registers of the mask are pushed, D first. -/
def execPshm (mask : Byte) (s : State) : Out :=
  .next ((maskBits.foldl (fun t bit => pshmBit mask bit t) s).advance 2)

/-- PULM (R551): the registers of the mask are pulled, CCR first, then one word more is read and discarded
(70_reset_and_hazards.md R745). -/
def execPulm (mask : Byte) (s : State) : Out :=
  let t := maskBits.foldl (fun t bit => pulmBit mask bit t) s
  .next ((t.readWord (t.skSp + 2)).2.advance 2)

/-- The one-instruction interrupt inhibit of ANDP, ORP, TAP and TDP (R560; 60_exceptions.md R676). -/
def State.inhibit (s : State) : State := { s with hid := { s.hid with irqInhibit := true } }

/-- ANDP (R552): CCR[15:4] <- CCR[15:4] AND the operand; PK stays. -/
def execAndp (jjkk : Word) (s : State) : Out := .next (((s.writeCcr (Ccr.unpack (s.ccr.pack 0#4 &&& jjkk))).inhibit).advance 4)

/-- ORP (R553): CCR[15:4] <- CCR[15:4] OR the operand; PK stays. -/
def execOrp (jjkk : Word) (s : State) : Out := .next (((s.writeCcr (Ccr.unpack (s.ccr.pack 0#4 ||| jjkk))).inhibit).advance 4)

/-- TAP (R554): CCR[15:8] <- A; IP, SM and PK stay. -/
def execTap (s : State) : Out :=
  .next (((s.writeCcr { Ccr.unpack (s.a ++ 0#8) with ip := s.ccr.ip, sm := s.ccr.sm }).inhibit).advance 2)

/-- TDP (R555): CCR[15:4] <- D[15:4]; PK stays. -/
def execTdp (s : State) : Out := .next (((s.writeCcr (Ccr.unpack s.d)).inhibit).advance 2)

/-- TPA (R556): A <- CCR[15:8]. -/
def execTpa (s : State) : Out := .next ({ s with a := hi (s.ccr.pack 0#4) }.advance 2)

/-- TPD (R557): D <- CCR, with the bank of ia + 6 in bits [3:0] (10_state.md R48). -/
def execTpd (s : State) : Out := .next ((s.setD (s.ccr.pack (bank s.vpc))).advance 2)

end Sys2Proof.Machine
end

