-- ==== Sys2Proof/Machine/Bdm.lean ====
section
/-!
DEFINITION. The commands of background debug mode (spec 60_exceptions.md R692 to R699). One command is one step made
while `run` is background; its words come from the pins and its reply goes to the events (log entry 19).
-/

namespace Sys2Proof.Machine

/-- A valid data word: status bit 0 (R692, Table 10-4). -/
def bdmData (w : Word) : BitVec 17 := 0#1 ++ w

/-- Command complete, status OK (R692, Table 10-4). -/
def bdmComplete : BitVec 17 := bdmData 0xFFFF#16

/-- Not ready with response (R692, Table 10-4). -/
def bdmNotReady : BitVec 17 := 1#1 ++ 0x0000#16

/-- Illegal command (R692, R693, Table 10-4). -/
def bdmIllegal : BitVec 17 := 1#1 ++ 0xFFFF#16

/-- Append a reply to the outputs; a command that returns nothing adds none. -/
def bdmReply (words : List (BitVec 17)) (s : State) : State :=
  match words with
  | [] => s
  | _ => { s with events := s.events ++ [.bdmReply words] }

/-- A nibble in bits [3:0] of a word whose other bits are `any value` (R696; 93_implementation_defined.md U12). -/
def looseNibble (v : Nibble) (free : Word) : Word := free.extractLsb' 4 12 ++ v

/-- The word RREGM returns for a mask bit: CCR[15:4], K, IZ, IY, IX, E, D for bits 0 to 6 (R694). -/
def rregmWord (bit : Nat) (s : State) : Word :=
  match bit with
  | 0 => s.ccr.pack ((Config.anyWord s.draws).extractLsb' 0 4)
  | 1 => s.k
  | 2 => s.iz
  | 3 => s.iy
  | 4 => s.ix
  | 5 => s.e
  | _ => s.d

/-- RREGM: the selected registers in ascending bit order, then command complete (R694). -/
def bdmRregm (mask : Word) (s : State) : State :=
  bdmReply (((maskBits.filter fun bit => mask.getLsbD bit).map fun bit => bdmData (rregmWord bit s)) ++ [bdmComplete])
    s.bump

/-- WREGM: one data word for each mask bit in ascending order; none when words are missing (R694). -/
def wregmLoad (bits : List Nat) (mask : Word) (data : List Word) (s : State) : Option State :=
  match bits with
  | [] => some s
  | bit :: rest =>
    if mask.getLsbD bit then
      match data with
      | [] => none
      | v :: more => wregmLoad rest mask more (pulmLoad bit v s)
    else wregmLoad rest mask data s

/-- A command whose words have not all been sent: nothing happens but the not-ready reply (log entry 19). -/
def bdmIncomplete (s : State) : State := bdmReply [bdmNotReady] s

/-- WREGM with its reply (R694). -/
def bdmWregm (mask : Word) (data : List Word) (s : State) : State :=
  match wregmLoad maskBits mask data s with
  | some t => bdmReply [bdmComplete] t
  | none => bdmIncomplete s

/-- RPCSP: PK, PC, SK, SP, the program counter as the hardware's, 6 above (R696). -/
def bdmRpcsp (s : State) : State :=
  bdmReply
    [bdmData (looseNibble (bank s.vpc) (Config.anyWord s.draws)), bdmData (offset s.vpc),
      bdmData (looseNibble s.sk (Config.anyWord (s.draws + 1))), bdmData s.sp, bdmComplete]
    s.bump.bump

/-- WPCSP: PK:PC <- the value less 6, with bit 0 clear; SK and SP as sent (R696). -/
def bdmWpcsp (pk pc sk sp : Word) (s : State) : State :=
  bdmReply [bdmComplete]
    { s.jumpTo ((pk.extractLsb' 0 4 ++ pc) - 6) with sk := sk.extractLsb' 0 4, sp := sp }

/-- The 20-bit address of the two extension words of a memory command (R697, R698). -/
def bdmAddress (w0 w1 : Word) : Addr := w0.extractLsb' 0 4 ++ w1

/-- RDMEM: bits [15:14] of the first word give the size, 00 byte, 01 word, 1X long word, each one access (R697). A bus
error is ignored, and the data of the whole access is then `any value` (R699; 20_memory.md R111). -/
def bdmRdmem (w0 w1 : Word) (s : State) : State :=
  let a := bdmAddress w0 w1
  if w0.getLsbD 15 then
    let p := s.busReadLong .data a
    bdmReply [bdmData p.1.1, bdmData p.1.2] p.2
  else if w0.getLsbD 14 then
    let p := s.busReadWord .data a
    bdmReply [bdmData p.1] p.2
  else
    let p := s.busReadByte .data a
    bdmReply [bdmData (0xFF#8 ++ p.1)] p.2

/-- WDMEM of a byte or a word (R697, R699). -/
def bdmWdmem (w0 w1 v : Word) (s : State) : State :=
  let a := bdmAddress w0 w1
  bdmReply [bdmComplete]
    (if w0.getLsbD 14 then s.busWriteWord .data a v else s.busWriteByte .data a (lo v))

/-- WDMEM of a long word, one access of four bytes (R697, R699). -/
def bdmWdmemLong (w0 w1 high low : Word) (s : State) : State :=
  bdmReply [bdmComplete] (s.busWriteLong .data (bdmAddress w0 w1) high low)

/-- RPMEM: one word of program space at the even address (R698, R699). -/
def bdmRpmem (w0 w1 : Word) (s : State) : State :=
  let p := s.busReadWord .program (even20 (bdmAddress w0 w1))
  bdmReply [bdmData p.1] p.2

/-- WPMEM: one word of program space at the even address (R698, R699). -/
def bdmWpmem (w0 w1 v : Word) (s : State) : State :=
  bdmReply [bdmComplete] (s.busWriteWord .program (even20 (bdmAddress w0 w1)) v)

/-- RDMAC: H, I, AM[15:0], AM[31:16], the SL word, the masks (R695). -/
def bdmRdmac (s : State) : State :=
  bdmReply
    [bdmData s.mac.hr, bdmData s.mac.ir, bdmData (s.mac.am.extractLsb' 0 16), bdmData (s.mac.am.extractLsb' 16 16),
      bdmData (slWord s.mac (Config.anyWord s.draws)), bdmData (s.mac.xmsk ++ s.mac.ymsk), bdmComplete]
    s.bump

/-- WRMAC: the masks, the SL word, AM[31:16], AM[15:0], I, H (R695). -/
def bdmWrmac (masks slw high low ir hr : Word) (s : State) : State :=
  bdmReply [bdmComplete]
    { s with
      mac := loadSlWord slw
        (loadAmHigh high (loadAmLow low
          { s.mac with hr := hr, ir := ir, xmsk := hi masks, ymsk := lo masks })) }

/-- One command: its operation word and the words that follow (R693). An unassigned operation word does nothing and
answers the illegal-command message. -/
def bdmCommand (op : Word) (args : List Word) (s : State) : State :=
  match op.toNat, args with
  | 0x1780, mask :: _ => bdmRregm mask s
  | 0x1781, mask :: data => bdmWregm mask data s
  | 0x1782, _ => bdmRpcsp s
  | 0x1783, pk :: pc :: sk :: sp :: _ => bdmWpcsp pk pc sk sp s
  | 0x1784, w0 :: w1 :: _ => bdmRdmem w0 w1 s
  | 0x1785, w0 :: w1 :: v :: rest =>
    if w0.getLsbD 15 then
      match rest with
      | [] => bdmIncomplete s
      | low :: _ => bdmWdmemLong w0 w1 v low s
    else bdmWdmem w0 w1 v s
  | 0x1786, w0 :: w1 :: _ => bdmRpmem w0 w1 s
  | 0x1787, w0 :: w1 :: v :: _ => bdmWpmem w0 w1 v s
  | 0x1788, _ => { s with run := .running }
  | 0x1789, _ => bdmReply [bdmComplete] s
  | 0x178A, _ => bdmRdmac s
  | 0x178B, masks :: slw :: high :: low :: ir :: hr :: _ => bdmWrmac masks slw high low ir hr s
  | n, _ => if 0x1780 ≤ n ∧ n ≤ 0x178B then bdmIncomplete s else bdmReply [bdmIllegal] s

/-- A step in background mode: the command on the pins, if any (R691). -/
def bdmStep (s : State) : State :=
  match s.pins.bdm with
  | [] => s
  | op :: args => bdmCommand op args s

end Sys2Proof.Machine
end

