-- ==== Sys2Proof/Machine/Arith.lean ====
section
/-!
DEFINITION. Addition, subtraction, decimal adjust, compare and test (spec 41_add_sub_compare.md).
-/

namespace Sys2Proof.Machine

/-- ABA (R241): A <- A + B, with H. -/
def execAba (s : State) : Out := reg8 opAdd8 .a s.a s.b s

/-- ADCA (R242): A <- A + operand + C, with H. -/
def execAdca (src : Src8) (s : State) : Out := bin8 opAdc8 .a src s

/-- ADCB (R243): B <- B + operand + C, with H. -/
def execAdcb (src : Src8) (s : State) : Out := bin8 opAdc8 .b src s

/-- ADCD (R244): D <- D + operand + C. -/
def execAdcd (src : Src16) (s : State) : Out := bin16 opAdc16 .d src s

/-- ADCE (R245): E <- E + operand + C. -/
def execAdce (src : Src16) (s : State) : Out := bin16 opAdc16 .e src s

/-- ADDA (R246): A <- A + operand, with H. -/
def execAdda (src : Src8) (s : State) : Out := bin8 opAdd8 .a src s

/-- ADDB (R247): B <- B + operand, with H. -/
def execAddb (src : Src8) (s : State) : Out := bin8 opAdd8 .b src s

/-- ADDD (R248): D <- D + operand. -/
def execAddd (src : Src16) (s : State) : Out := bin16 opAdd16 .d src s

/-- ADDE (R249): E <- E + operand. -/
def execAdde (src : Src16) (s : State) : Out := bin16 opAdd16 .e src s

/-- SBCA (R252): A <- A - operand - C. -/
def execSbca (src : Src8) (s : State) : Out := bin8 opSbc .a src s

/-- SBCB (R253): B <- B - operand - C. -/
def execSbcb (src : Src8) (s : State) : Out := bin8 opSbc .b src s

/-- SBCD (R254): D <- D - operand - C. -/
def execSbcd (src : Src16) (s : State) : Out := bin16 opSbc .d src s

/-- SBCE (R255): E <- E - operand - C. -/
def execSbce (src : Src16) (s : State) : Out := bin16 opSbc .e src s

/-- SUBA (R257): A <- A - operand. -/
def execSuba (src : Src8) (s : State) : Out := bin8 opSub .a src s

/-- SUBB (R258): B <- B - operand. -/
def execSubb (src : Src8) (s : State) : Out := bin8 opSub .b src s

/-- SUBD (R259): D <- D - operand. -/
def execSubd (src : Src16) (s : State) : Out := bin16 opSub .d src s

/-- SUBE (R260): E <- E - operand. -/
def execSube (src : Src16) (s : State) : Out := bin16 opSub .e src s

/-- ADE (R250): E <- E + D. -/
def execAde (s : State) : Out := reg16 opAdd16 .e s.e s.d s

/-- SBA (R251): A <- A - B. -/
def execSba (s : State) : Out := reg8 opSub .a s.a s.b s

/-- SDE (R256): E <- E - D. -/
def execSde (s : State) : Out := reg16 opSub .e s.e s.d s

/-- The low digit needs correction (R261). -/
def daaLow (a : Byte) (c : Ccr) : Bool := c.h || decide (9 < a.toNat % 16)

/-- The high digit needs correction; this is C after DAA (R261). -/
def daaHigh (a : Byte) (c : Ccr) : Bool :=
  c.c || decide (9 < a.toNat / 16) || (decide (a.toNat / 16 = 9) && decide (9 < a.toNat % 16))

/-- The adjusted A: the total function of R261, which is the spec's own outside Table 6-18 (log entry 11). -/
def daaValue (a : Byte) (c : Ccr) : Byte :=
  a + (if daaLow a c then 0x06#8 else 0#8) + (if daaHigh a c then 0x60#8 else 0#8)

/-- DAA (R261): A is adjusted, C is the decimal carry, N and Z are of A, V is `any value` (log entry 7). -/
def execDaa (s : State) : Out :=
  let r := daaValue s.a s.ccr
  .next (({ s.bump with a := r }.setFlags
    { s.ccr with n := r.msb, z := r == 0#8, v := Config.anyBit s.draws, c := daaHigh s.a s.ccr }).advance 2)

/-- SXT (R262): A <- copies of B[7]; N and Z are of A alone. -/
def execSxt (s : State) : Out :=
  let r : Byte := if s.b.msb then 0xFF#8 else 0x00#8
  .next (({ s with a := r }.setFlags { s.ccr with n := r.msb, z := r == 0#8 }).advance 2)

/-- CBA (R263): the flags of A - B. -/
def execCba (s : State) : Out :=
  .next ((s.setFlags (opSub s.a s.b s.ccr).2).advance 2)

/-- CMPA (R264): the flags of A - operand. -/
def execCmpa (src : Src8) (s : State) : Out := cmp8 opSub .a src s

/-- CMPB (R265): the flags of B - operand. -/
def execCmpb (src : Src8) (s : State) : Out := cmp8 opSub .b src s

/-- CPD (R266): the flags of D - operand. -/
def execCpd (src : Src16) (s : State) : Out := cmp16 opSub .d src s

/-- CPE (R267): the flags of E - operand. -/
def execCpe (src : Src16) (s : State) : Out := cmp16 opSub .e src s

/-- TST (R268): the flags of a memory byte. -/
def execTst (m : MemOp) (s : State) : Out := test8 m s

/-- TSTW (R273): the flags of a memory word. -/
def execTstw (m : MemOp) (s : State) : Out := test16 m s

/-- TSTA (R269): the flags of A. -/
def execTsta (s : State) : Out := un8 opTst .a s

/-- TSTB (R270): the flags of B. -/
def execTstb (s : State) : Out := un8 opTst .b s

/-- TSTD (R271): the flags of D. -/
def execTstd (s : State) : Out := un16 opTst .d s

/-- TSTE (R272): the flags of E. -/
def execTste (s : State) : Out := un16 opTst .e s

end Sys2Proof.Machine
end

