-- ==== Sys2Proof/Machine/DataMovement.lean ====
section
/-!
DEFINITION. Data movement (spec 40_data_movement.md): load, move, store, transfer, exchange.
-/

namespace Sys2Proof.Machine

/-- LDAA (R201): A <- the operand. -/
def execLdaa (src : Src8) (s : State) : Out := bin8 opLoad .a src s

/-- LDAB (R202): B <- the operand. -/
def execLdab (src : Src8) (s : State) : Out := bin8 opLoad .b src s

/-- LDD (R203): D <- the operand. -/
def execLdd (src : Src16) (s : State) : Out := bin16 opLoad .d src s

/-- LDE (R204): E <- the operand. -/
def execLde (src : Src16) (s : State) : Out := bin16 opLoad .e src s

/-- LDED (R205): E <- the word at EK : hhll, then D <- the word 2 above. -/
def execLded (hhll : Word) (s : State) : Out :=
  let p := s.readWord (ea (.ext hhll) s)
  let q := p.2.readWord (ea (.ext hhll) s + 2)
  .next (({ q.2 with e := p.1 }.setD q.1).advance 4)

/-- MOVB (R206): one byte is read, then written; N and Z of it, V cleared; the IXP forms then add the offset to XK : IX. -/
def execMovb (op : MovOp) (s : State) : Out :=
  let p := s.readByte (movSrc op s)
  let t := (p.2.writeByte (movDst op s) p.1).setFlags (s.ccr.logic p.1)
  .next ((movPost op (s.pointer .x) t).advance (movLen op))

/-- MOVW (R207): one word is read, then written; N and Z of it, V cleared; the IXP forms then add the offset to XK : IX. -/
def execMovw (op : MovOp) (s : State) : Out :=
  let p := s.readWord (movSrc op s)
  let t := (p.2.writeWord (movDst op s) p.1).setFlags (s.ccr.logic p.1)
  .next ((movPost op (s.pointer .x) t).advance (movLen op))

/-- STAA (R208): the operand <- A. -/
def execStaa (m : MemOp) (s : State) : Out := store8 s.a m s

/-- STAB (R209): the operand <- B. -/
def execStab (m : MemOp) (s : State) : Out := store8 s.b m s

/-- STD (R210): the operand <- D. -/
def execStd (m : MemOp) (s : State) : Out := store16 s.d m s

/-- STE (R211): the operand <- E. -/
def execSte (m : MemOp) (s : State) : Out := store16 s.e m s

/-- STED (R212): the word at EK : hhll <- E, then the word 2 above <- D; no flag changes. -/
def execSted (hhll : Word) (s : State) : Out :=
  let t := (s.writeWord (ea (.ext hhll) s) s.e).writeWord (ea (.ext hhll) s + 2) s.d
  .next (t.advance 4)

/-- TAB (R213): B <- A. -/
def execTab (s : State) : Out := reg8 opLoad .b s.b s.a s

/-- TBA (R214): A <- B. -/
def execTba (s : State) : Out := reg8 opLoad .a s.a s.b s

/-- TDE (R215): E <- D. -/
def execTde (s : State) : Out := reg16 opLoad .e s.e s.d s

/-- TED (R216): D <- E. -/
def execTed (s : State) : Out := reg16 opLoad .d s.d s.e s

/-- XGAB (R217): A and B change places. -/
def execXgab (s : State) : Out := .next ({ s with a := s.b, b := s.a }.advance 2)

/-- XGDE (R218): D and E change places. -/
def execXgde (s : State) : Out := .next (({ s with e := s.d }.setD s.e).advance 2)

end Sys2Proof.Machine
end

