-- ==== Sys2Proof/Machine/Indexing.lean ====
section
/-!
DEFINITION. Indexing and address extension (spec 45_indexing_extension.md).
-/

namespace Sys2Proof.Machine

/-- Add to an index register and its extension field as one 20-bit value (R530). -/
def addPointer (r : Idx) (v : Addr) (s : State) : State := s.setPointer r (s.pointer r + v)

/-- AIX, AIY, AIZ: the 20-bit addition, and Z of the 16-bit register alone (R479). -/
def addImmPointer (r : Idx) (i : Imm) (s : State) : Out :=
  let t := addPointer r (immValue i) s
  .next ((t.setFlags { s.ccr with z := t.index r == 0#16 }).advance (immLen i))

/-- ABX (R470): XK : IX <- XK : IX + zero-extended B. -/
def execAbx (s : State) : Out := .next ((addPointer .x (zext20b s.b) s).advance 2)

/-- ADX (R473): XK : IX <- XK : IX + sign-extended D. -/
def execAdx (s : State) : Out := .next ((addPointer .x (sext20 s.d) s).advance 2)

/-- AEX (R476): XK : IX <- XK : IX + sign-extended E. -/
def execAex (s : State) : Out := .next ((addPointer .x (sext20 s.e) s).advance 2)

/-- AIX (R479): XK : IX <- XK : IX + sign-extended immediate; Z of IX. -/
def execAix (i : Imm) (s : State) : Out := addImmPointer .x i s

/-- CPX (R482): the flags of IX - operand. -/
def execCpx (src : Src16) (s : State) : Out := cmp16 opSub .ix src s

/-- LDX (R485): IX <- the operand. -/
def execLdx (src : Src16) (s : State) : Out := bin16 opLoad .ix src s

/-- STX (R488): the operand <- IX. -/
def execStx (m : MemOp) (s : State) : Out := store16 s.ix m s

/-- TSX (R491): XK : IX <- SK : SP + 2. -/
def execTsx (s : State) : Out := .next ((s.setPointer .x (s.skSp + 2)).advance 2)

/-- TXS (R494): SK : SP <- XK : IX - 2. -/
def execTxs (s : State) : Out := .next ((s.setSkSp (s.pointer .x - 2)).advance 2)

/-- TXY (R495): YK : IY <- XK : IX. -/
def execTxy (s : State) : Out := .next ((s.setPointer .y (s.pointer .x)).advance 2)

/-- TXZ (R496): ZK : IZ <- XK : IX. -/
def execTxz (s : State) : Out := .next ((s.setPointer .z (s.pointer .x)).advance 2)

/-- XGDX (R503): D and IX change places. -/
def execXgdx (s : State) : Out := .next ((({ s with ix := s.d }).setD s.ix).advance 2)

/-- XGEX (R506): E and IX change places. -/
def execXgex (s : State) : Out := .next ({ s with ix := s.e, e := s.ix }.advance 2)

/-- ABY (R471): YK : IY <- YK : IY + zero-extended B. -/
def execAby (s : State) : Out := .next ((addPointer .y (zext20b s.b) s).advance 2)

/-- ADY (R474): YK : IY <- YK : IY + sign-extended D. -/
def execAdy (s : State) : Out := .next ((addPointer .y (sext20 s.d) s).advance 2)

/-- AEY (R477): YK : IY <- YK : IY + sign-extended E. -/
def execAey (s : State) : Out := .next ((addPointer .y (sext20 s.e) s).advance 2)

/-- AIY (R480): YK : IY <- YK : IY + sign-extended immediate; Z of IY. -/
def execAiy (i : Imm) (s : State) : Out := addImmPointer .y i s

/-- CPY (R483): the flags of IY - operand. -/
def execCpy (src : Src16) (s : State) : Out := cmp16 opSub .iy src s

/-- LDY (R486): IY <- the operand. -/
def execLdy (src : Src16) (s : State) : Out := bin16 opLoad .iy src s

/-- STY (R489): the operand <- IY. -/
def execSty (m : MemOp) (s : State) : Out := store16 s.iy m s

/-- TSY (R492): YK : IY <- SK : SP + 2. -/
def execTsy (s : State) : Out := .next ((s.setPointer .y (s.skSp + 2)).advance 2)

/-- TYS (R497): SK : SP <- YK : IY - 2. -/
def execTys (s : State) : Out := .next ((s.setSkSp (s.pointer .y - 2)).advance 2)

/-- TYX (R498): XK : IX <- YK : IY. -/
def execTyx (s : State) : Out := .next ((s.setPointer .x (s.pointer .y)).advance 2)

/-- TYZ (R499): ZK : IZ <- YK : IY. -/
def execTyz (s : State) : Out := .next ((s.setPointer .z (s.pointer .y)).advance 2)

/-- XGDY (R504): D and IY change places. -/
def execXgdy (s : State) : Out := .next ((({ s with iy := s.d }).setD s.iy).advance 2)

/-- XGEY (R507): E and IY change places. -/
def execXgey (s : State) : Out := .next ({ s with iy := s.e, e := s.iy }.advance 2)

/-- ABZ (R472): ZK : IZ <- ZK : IZ + zero-extended B. -/
def execAbz (s : State) : Out := .next ((addPointer .z (zext20b s.b) s).advance 2)

/-- ADZ (R475): ZK : IZ <- ZK : IZ + sign-extended D. -/
def execAdz (s : State) : Out := .next ((addPointer .z (sext20 s.d) s).advance 2)

/-- AEZ (R478): ZK : IZ <- ZK : IZ + sign-extended E. -/
def execAez (s : State) : Out := .next ((addPointer .z (sext20 s.e) s).advance 2)

/-- AIZ (R481): ZK : IZ <- ZK : IZ + sign-extended immediate; Z of IZ. -/
def execAiz (i : Imm) (s : State) : Out := addImmPointer .z i s

/-- CPZ (R484): the flags of IZ - operand. -/
def execCpz (src : Src16) (s : State) : Out := cmp16 opSub .iz src s

/-- LDZ (R487): IZ <- the operand. -/
def execLdz (src : Src16) (s : State) : Out := bin16 opLoad .iz src s

/-- STZ (R490): the operand <- IZ. -/
def execStz (m : MemOp) (s : State) : Out := store16 s.iz m s

/-- TSZ (R493): ZK : IZ <- SK : SP + 2. -/
def execTsz (s : State) : Out := .next ((s.setPointer .z (s.skSp + 2)).advance 2)

/-- TZS (R500): SK : SP <- ZK : IZ - 2. -/
def execTzs (s : State) : Out := .next ((s.setSkSp (s.pointer .z - 2)).advance 2)

/-- TZX (R501): XK : IX <- ZK : IZ. -/
def execTzx (s : State) : Out := .next ((s.setPointer .x (s.pointer .z)).advance 2)

/-- TZY (R502): YK : IY <- ZK : IZ. -/
def execTzy (s : State) : Out := .next ((s.setPointer .y (s.pointer .z)).advance 2)

/-- XGDZ (R505): D and IZ change places. -/
def execXgdz (s : State) : Out := .next ((({ s with iz := s.d }).setD s.iz).advance 2)

/-- XGEZ (R508): E and IZ change places. -/
def execXgez (s : State) : Out := .next ({ s with iz := s.e, e := s.iz }.advance 2)

/-- TBEK (R509): EK <- B[3:0]. -/
def execTbek (s : State) : Out := .next ({ s with ek := s.b.extractLsb' 0 4 }.advance 2)

/-- TEKB (R514): B <- EK, bits [7:4] clear. -/
def execTekb (s : State) : Out := .next ({ s with b := s.ek.setWidth 8 }.advance 2)

/-- TBSK (R510): SK <- B[3:0]. -/
def execTbsk (s : State) : Out := .next ({ s with sk := s.b.extractLsb' 0 4 }.advance 2)

/-- TSKB (R515): B <- SK, bits [7:4] clear. -/
def execTskb (s : State) : Out := .next ({ s with b := s.sk.setWidth 8 }.advance 2)

/-- TBXK (R511): XK <- B[3:0]. -/
def execTbxk (s : State) : Out := .next ({ s with xk := s.b.extractLsb' 0 4 }.advance 2)

/-- TXKB (R516): B <- XK, bits [7:4] clear. -/
def execTxkb (s : State) : Out := .next ({ s with b := s.xk.setWidth 8 }.advance 2)

/-- TBYK (R512): YK <- B[3:0]. -/
def execTbyk (s : State) : Out := .next ({ s with yk := s.b.extractLsb' 0 4 }.advance 2)

/-- TYKB (R517): B <- YK, bits [7:4] clear. -/
def execTykb (s : State) : Out := .next ({ s with b := s.yk.setWidth 8 }.advance 2)

/-- TBZK (R513): ZK <- B[3:0]. -/
def execTbzk (s : State) : Out := .next ({ s with zk := s.b.extractLsb' 0 4 }.advance 2)

/-- TZKB (R518): B <- ZK, bits [7:4] clear. -/
def execTzkb (s : State) : Out := .next ({ s with b := s.zk.setWidth 8 }.advance 2)

end Sys2Proof.Machine
end

