-- ==== Sys2Proof/Machine/Logic.lean ====
section
/-!
DEFINITION. Boolean logic, bit test and manipulation, shift and rotate (spec 43_logic_bit_shift.md).
-/

namespace Sys2Proof.Machine

/-- ANDA (R341): A <- A AND operand. -/
def execAnda (src : Src8) (s : State) : Out := bin8 opAnd .a src s

/-- ANDB (R342): B <- B AND operand. -/
def execAndb (src : Src8) (s : State) : Out := bin8 opAnd .b src s

/-- ANDD (R343): D <- D AND operand. -/
def execAndd (src : Src16) (s : State) : Out := bin16 opAnd .d src s

/-- ANDE (R344): E <- E AND operand. -/
def execAnde (src : Src16) (s : State) : Out := bin16 opAnd .e src s

/-- EORA (R345): A <- A EOR operand. -/
def execEora (src : Src8) (s : State) : Out := bin8 opEor .a src s

/-- EORB (R346): B <- B EOR operand. -/
def execEorb (src : Src8) (s : State) : Out := bin8 opEor .b src s

/-- EORD (R347): D <- D EOR operand. -/
def execEord (src : Src16) (s : State) : Out := bin16 opEor .d src s

/-- EORE (R348): E <- E EOR operand. -/
def execEore (src : Src16) (s : State) : Out := bin16 opEor .e src s

/-- ORAA (R349): A <- A OR operand. -/
def execOraa (src : Src8) (s : State) : Out := bin8 opOr .a src s

/-- ORAB (R350): B <- B OR operand. -/
def execOrab (src : Src8) (s : State) : Out := bin8 opOr .b src s

/-- ORD (R351): D <- D OR operand. -/
def execOrd (src : Src16) (s : State) : Out := bin16 opOr .d src s

/-- ORE (R352): E <- E OR operand. -/
def execOre (src : Src16) (s : State) : Out := bin16 opOr .e src s

/-- BITA (R353): the flags of A AND operand. -/
def execBita (src : Src8) (s : State) : Out := cmp8 opAnd .a src s

/-- BITB (R354): the flags of B AND operand. -/
def execBitb (src : Src8) (s : State) : Out := cmp8 opAnd .b src s

/-- BCLR (R355): the bits of the mask are cleared in a memory byte. -/
def execBclr (mm : Byte) (m : MemOp) (s : State) : Out := rmw8 (opBclr mm) m 4 s

/-- BCLRW (R356): the bits of the mask are cleared in a memory word. -/
def execBclrw (mmmm : Word) (m : MemOp) (s : State) : Out := rmw16 (opBclr mmmm) m 6 s

/-- BSET (R357): the bits of the mask are set in a memory byte. -/
def execBset (mm : Byte) (m : MemOp) (s : State) : Out := rmw8 (opBset mm) m 4 s

/-- BSETW (R358): the bits of the mask are set in a memory word. -/
def execBsetw (mmmm : Word) (m : MemOp) (s : State) : Out := rmw16 (opBset mmmm) m 6 s

/-- ASL (R360): arithmetic shift left of a memory byte. -/
def execAsl (m : MemOp) (s : State) : Out := rmw8 opAsl m (memLen m) s

/-- ASLA (R361): arithmetic shift left of A. -/
def execAsla (s : State) : Out := un8 opAsl .a s

/-- ASLB (R362): arithmetic shift left of B. -/
def execAslb (s : State) : Out := un8 opAsl .b s

/-- ASLD (R363): arithmetic shift left of D. -/
def execAsld (s : State) : Out := un16 opAsl .d s

/-- ASLE (R364): arithmetic shift left of E. -/
def execAsle (s : State) : Out := un16 opAsl .e s

/-- ASLW (R365): arithmetic shift left of a memory word. -/
def execAslw (m : MemOp) (s : State) : Out := rmw16 opAsl m (memLen m) s

/-- ASR (R366): arithmetic shift right of a memory byte. -/
def execAsr (m : MemOp) (s : State) : Out := rmw8 opAsr m (memLen m) s

/-- ASRA (R367): arithmetic shift right of A. -/
def execAsra (s : State) : Out := un8 opAsr .a s

/-- ASRB (R368): arithmetic shift right of B. -/
def execAsrb (s : State) : Out := un8 opAsr .b s

/-- ASRD (R369): arithmetic shift right of D. -/
def execAsrd (s : State) : Out := un16 opAsr .d s

/-- ASRE (R370): arithmetic shift right of E. -/
def execAsre (s : State) : Out := un16 opAsr .e s

/-- ASRW (R371): arithmetic shift right of a memory word. -/
def execAsrw (m : MemOp) (s : State) : Out := rmw16 opAsr m (memLen m) s

/-- LSR (R372): logic shift right of a memory byte. -/
def execLsr (m : MemOp) (s : State) : Out := rmw8 opLsr m (memLen m) s

/-- LSRA (R373): logic shift right of A. -/
def execLsra (s : State) : Out := un8 opLsr .a s

/-- LSRB (R374): logic shift right of B. -/
def execLsrb (s : State) : Out := un8 opLsr .b s

/-- LSRD (R375): logic shift right of D. -/
def execLsrd (s : State) : Out := un16 opLsr .d s

/-- LSRE (R376): logic shift right of E. -/
def execLsre (s : State) : Out := un16 opLsr .e s

/-- LSRW (R377): logic shift right of a memory word. -/
def execLsrw (m : MemOp) (s : State) : Out := rmw16 opLsr m (memLen m) s

/-- ROL (R378): rotate left of a memory byte. -/
def execRol (m : MemOp) (s : State) : Out := rmw8 opRol m (memLen m) s

/-- ROLA (R379): rotate left of A. -/
def execRola (s : State) : Out := un8 opRol .a s

/-- ROLB (R380): rotate left of B. -/
def execRolb (s : State) : Out := un8 opRol .b s

/-- ROLD (R381): rotate left of D. -/
def execRold (s : State) : Out := un16 opRol .d s

/-- ROLE (R382): rotate left of E. -/
def execRole (s : State) : Out := un16 opRol .e s

/-- ROLW (R383): rotate left of a memory word. -/
def execRolw (m : MemOp) (s : State) : Out := rmw16 opRol m (memLen m) s

/-- ROR (R384): rotate right of a memory byte. -/
def execRor (m : MemOp) (s : State) : Out := rmw8 opRor m (memLen m) s

/-- RORA (R385): rotate right of A. -/
def execRora (s : State) : Out := un8 opRor .a s

/-- RORB (R386): rotate right of B. -/
def execRorb (s : State) : Out := un8 opRor .b s

/-- RORD (R387): rotate right of D. -/
def execRord (s : State) : Out := un16 opRor .d s

/-- RORE (R388): rotate right of E. -/
def execRore (s : State) : Out := un16 opRor .e s

/-- RORW (R389): rotate right of a memory word. -/
def execRorw (m : MemOp) (s : State) : Out := rmw16 opRor m (memLen m) s

end Sys2Proof.Machine
end

