-- ==== Sys2Proof/Machine/MulDiv.lean ====
section
/-!
DEFINITION. Multiplication, division, increment, decrement, clear, complement and negate
(spec 42_mul_div_inc_clr.md).
-/

namespace Sys2Proof.Machine

/-- The flags N, Z, C after an overflow, and N, Z, V, C after a division by zero, are `any value`
(R291, R292; 93_implementation_defined.md U2). `v` is the V to store, or none for `any value`. -/
def State.looseDivFlags (v : Option Bool) (s : State) : State :=
  { s with
    draws := s.draws + 4
    ccr := { s.ccr with
      n := Config.anyBit s.draws
      z := Config.anyBit (s.draws + 1)
      c := Config.anyBit (s.draws + 2)
      v := v.getD (Config.anyBit (s.draws + 3)) } }

/-- The division exception, with the loose flags in the stacked image (R291; 60_exceptions.md R686). -/
def divideByZero (s : State) : Out := .next ((s.looseDivFlags none).takeException .divZero (s.pc + 8))

/-- A quotient that does not fit: V set, N, Z, C, IX and D `any value`, E unchanged (R291, R292;
93_implementation_defined.md U3). -/
def divideOverflow (s : State) : Out :=
  let t := s.looseDivFlags (some true)
  .next (({ t with draws := t.draws + 2, ix := Config.anyWord t.draws }.setD (Config.anyWord (t.draws + 1))).advance 2)

/-- A quotient and remainder stored, with V clear, N and Z of the quotient, and C when twice the remainder reaches
the divisor (R291, R292). -/
def divideResult (q r : Word) (c : Bool) (s : State) : Out :=
  .next ((({ s with ix := q }.setD r).setFlags
    { s.ccr with n := q.msb, z := q == 0#16, v := false, c := c }).advance 2)

/-- EDIV (R291): E : D divided by IX, unsigned; quotient to IX, remainder to D. -/
def execEdiv (s : State) : Out :=
  let n := s.ed.toNat
  let d := s.ix.toNat
  if d = 0 then divideByZero s
  else if 0xFFFF < n / d then divideOverflow s
  else divideResult (BitVec.ofNat 16 (n / d)) (BitVec.ofNat 16 (n % d)) (decide (d ≤ 2 * (n % d))) s

/-- EDIVS (R292): E : D divided by IX, signed, toward zero (PRESUMED, log entry 12); quotient to IX, remainder to D. -/
def execEdivs (s : State) : Out :=
  let n := s.ed.toInt
  let d := s.ix.toInt
  if d = 0 then divideByZero s
  else if 0x7FFF < n.tdiv d ∨ n.tdiv d < -0x8000 then divideOverflow s
  else divideResult (BitVec.ofInt 16 (n.tdiv d)) (BitVec.ofInt 16 (n.tmod d))
    (decide (d.natAbs ≤ 2 * (n.tmod d).natAbs)) s

/-- A 32-bit product to E : D, with N and Z of it and C its bit 15 (R293). -/
def storeProduct (p : BitVec 32) (v : Bool) (s : State) : Out :=
  .next (((s.setEd p).setFlags { s.ccr with n := p.msb, z := p == 0#32, v := v, c := p.getLsbD 15 }).advance 2)

/-- EMUL (R293): E : D <- E * D, unsigned; V not affected. -/
def execEmul (s : State) : Out := storeProduct (BitVec.ofNat 32 (s.e.toNat * s.d.toNat)) s.ccr.v s

/-- EMULS (R294): E : D <- E * D, signed; V not affected. -/
def execEmuls (s : State) : Out := storeProduct (BitVec.ofInt 32 (s.e.toInt * s.d.toInt)) s.ccr.v s

/-- FDIV (R295): D divided by IX as fractions; no quotient when IX does not exceed D, and then D is `any value`
(93_implementation_defined.md U3a). -/
def execFdiv (s : State) : Out :=
  let n := s.d.toNat
  let d := s.ix.toNat
  if d ≤ n then
    .next ((({ s.bump with ix := 0xFFFF#16 }.setD (Config.anyWord s.draws)).setFlags
      { s.ccr with z := false, v := true, c := decide (d = 0) }).advance 2)
  else
    let q := BitVec.ofNat 16 (n * 65536 / d)
    .next ((({ s with ix := q }.setD (BitVec.ofNat 16 (n * 65536 % d))).setFlags
      { s.ccr with z := q == 0#16, v := false, c := false }).advance 2)

/-- FMULS (R296): E : D <- E * D * 2 as fractions; V for -1 times -1. -/
def execFmuls (s : State) : Out :=
  storeProduct (BitVec.ofInt 32 (s.e.toInt * s.d.toInt * 2)) ((s.e == 0x8000#16) && (s.d == 0x8000#16)) s

/-- IDIV (R297): D divided by IX, unsigned; with IX zero, IX <- $FFFF and D is `any value`
(93_implementation_defined.md U3a). -/
def execIdiv (s : State) : Out :=
  let n := s.d.toNat
  let d := s.ix.toNat
  if d = 0 then
    .next ((({ s.bump with ix := 0xFFFF#16 }.setD (Config.anyWord s.draws)).setFlags
      { s.ccr with z := false, v := false, c := true }).advance 2)
  else
    let q := BitVec.ofNat 16 (n / d)
    .next ((({ s with ix := q }.setD (BitVec.ofNat 16 (n % d))).setFlags
      { s.ccr with z := q == 0#16, v := false, c := false }).advance 2)

/-- MUL (R298): D <- A * B, unsigned; C is bit 7 of the product. -/
def execMul (s : State) : Out :=
  let p := BitVec.ofNat 16 (s.a.toNat * s.b.toNat)
  .next (((s.setD p).setFlags { s.ccr with c := p.getLsbD 7 }).advance 2)

/-- DEC (R299): one less in a memory byte. -/
def execDec (m : MemOp) (s : State) : Out := rmw8 opDec m (memLen m) s

/-- DECA (R300): one less in A. -/
def execDeca (s : State) : Out := un8 opDec .a s

/-- DECB (R301): one less in B. -/
def execDecb (s : State) : Out := un8 opDec .b s

/-- DECW (R302): one less in a memory word. -/
def execDecw (m : MemOp) (s : State) : Out := rmw16 opDec m (memLen m) s

/-- INC (R303): one more in a memory byte. -/
def execInc (m : MemOp) (s : State) : Out := rmw8 opInc m (memLen m) s

/-- INCA (R304): one more in A. -/
def execInca (s : State) : Out := un8 opInc .a s

/-- INCB (R305): one more in B. -/
def execIncb (s : State) : Out := un8 opInc .b s

/-- INCW (R306): one more in a memory word. -/
def execIncw (m : MemOp) (s : State) : Out := rmw16 opInc m (memLen m) s

/-- CLR (R307): zero in a memory byte. -/
def execClr (m : MemOp) (s : State) : Out := clear8 m s

/-- CLRA (R308): zero in A. -/
def execClra (s : State) : Out := un8 opClr .a s

/-- CLRB (R309): zero in B. -/
def execClrb (s : State) : Out := un8 opClr .b s

/-- CLRD (R310): zero in D. -/
def execClrd (s : State) : Out := un16 opClr .d s

/-- CLRE (R311): zero in E. -/
def execClre (s : State) : Out := un16 opClr .e s

/-- CLRW (R312): zero in a memory word. -/
def execClrw (m : MemOp) (s : State) : Out := clear16 m s

/-- COM (R313): the complement of a memory byte. -/
def execCom (m : MemOp) (s : State) : Out := rmw8 opCom m (memLen m) s

/-- COMA (R314): the complement of A. -/
def execComa (s : State) : Out := un8 opCom .a s

/-- COMB (R315): the complement of B. -/
def execComb (s : State) : Out := un8 opCom .b s

/-- COMD (R316): the complement of D. -/
def execComd (s : State) : Out := un16 opCom .d s

/-- COME (R317): the complement of E. -/
def execCome (s : State) : Out := un16 opCom .e s

/-- COMW (R318): the complement of a memory word. -/
def execComw (m : MemOp) (s : State) : Out := rmw16 opCom m (memLen m) s

/-- NEG (R319): the negative of a memory byte. -/
def execNeg (m : MemOp) (s : State) : Out := rmw8 opNeg m (memLen m) s

/-- NEGA (R320): the negative of A. -/
def execNega (s : State) : Out := un8 opNeg .a s

/-- NEGB (R321): the negative of B. -/
def execNegb (s : State) : Out := un8 opNeg .b s

/-- NEGD (R322): the negative of D. -/
def execNegd (s : State) : Out := un16 opNeg .d s

/-- NEGE (R323): the negative of E. -/
def execNege (s : State) : Out := un16 opNeg .e s

/-- NEGW (R324): the negative of a memory word. -/
def execNegw (m : MemOp) (s : State) : Out := rmw16 opNeg m (memLen m) s

end Sys2Proof.Machine
end

