-- ==== Sys2Proof/Machine/ProgramControl.lean ====
section
/-!
DEFINITION. Program control (spec 44_program_control.md).
-/

namespace Sys2Proof.Machine

/-- BCC (R401): short branch. -/
def execBcc (rr : Byte) (s : State) : Out := shortBranch condCc rr s

/-- BCS (R402): short branch. -/
def execBcs (rr : Byte) (s : State) : Out := shortBranch condCs rr s

/-- BEQ (R403): short branch. -/
def execBeq (rr : Byte) (s : State) : Out := shortBranch condEq rr s

/-- BGE (R404): short branch. -/
def execBge (rr : Byte) (s : State) : Out := shortBranch condGe rr s

/-- BGT (R405): short branch. -/
def execBgt (rr : Byte) (s : State) : Out := shortBranch condGt rr s

/-- BHI (R406): short branch. -/
def execBhi (rr : Byte) (s : State) : Out := shortBranch condHi rr s

/-- BLE (R407): short branch. -/
def execBle (rr : Byte) (s : State) : Out := shortBranch condLe rr s

/-- BLS (R408): short branch. -/
def execBls (rr : Byte) (s : State) : Out := shortBranch condLs rr s

/-- BLT (R409): short branch. -/
def execBlt (rr : Byte) (s : State) : Out := shortBranch condLt rr s

/-- BMI (R410): short branch. -/
def execBmi (rr : Byte) (s : State) : Out := shortBranch condMi rr s

/-- BNE (R411): short branch. -/
def execBne (rr : Byte) (s : State) : Out := shortBranch condNe rr s

/-- BPL (R412): short branch. -/
def execBpl (rr : Byte) (s : State) : Out := shortBranch condPl rr s

/-- BRA (R413): short branch. -/
def execBra (rr : Byte) (s : State) : Out := shortBranch condRa rr s

/-- BRN (R414): short branch. -/
def execBrn (rr : Byte) (s : State) : Out := shortBranch condRn rr s

/-- BVC (R415): short branch. -/
def execBvc (rr : Byte) (s : State) : Out := shortBranch condVc rr s

/-- BVS (R416): short branch. -/
def execBvs (rr : Byte) (s : State) : Out := shortBranch condVs rr s

/-- LBCC (R417): long branch. -/
def execLbcc (rrrr : Word) (s : State) : Out := longBranch condCc rrrr s

/-- LBCS (R418): long branch. -/
def execLbcs (rrrr : Word) (s : State) : Out := longBranch condCs rrrr s

/-- LBEQ (R419): long branch. -/
def execLbeq (rrrr : Word) (s : State) : Out := longBranch condEq rrrr s

/-- LBEV (R420): long branch. -/
def execLbev (rrrr : Word) (s : State) : Out := longBranch condEv rrrr s

/-- LBGE (R421): long branch. -/
def execLbge (rrrr : Word) (s : State) : Out := longBranch condGe rrrr s

/-- LBGT (R422): long branch. -/
def execLbgt (rrrr : Word) (s : State) : Out := longBranch condGt rrrr s

/-- LBHI (R423): long branch. -/
def execLbhi (rrrr : Word) (s : State) : Out := longBranch condHi rrrr s

/-- LBLE (R424): long branch. -/
def execLble (rrrr : Word) (s : State) : Out := longBranch condLe rrrr s

/-- LBLS (R425): long branch. -/
def execLbls (rrrr : Word) (s : State) : Out := longBranch condLs rrrr s

/-- LBLT (R426): long branch. -/
def execLblt (rrrr : Word) (s : State) : Out := longBranch condLt rrrr s

/-- LBMI (R427): long branch. -/
def execLbmi (rrrr : Word) (s : State) : Out := longBranch condMi rrrr s

/-- LBMV (R428): long branch. -/
def execLbmv (rrrr : Word) (s : State) : Out := longBranch condMv rrrr s

/-- LBNE (R429): long branch. -/
def execLbne (rrrr : Word) (s : State) : Out := longBranch condNe rrrr s

/-- LBPL (R430): long branch. -/
def execLbpl (rrrr : Word) (s : State) : Out := longBranch condPl rrrr s

/-- LBRA (R431): long branch. -/
def execLbra (rrrr : Word) (s : State) : Out := longBranch condRa rrrr s

/-- LBRN (R432): long branch. -/
def execLbrn (rrrr : Word) (s : State) : Out := longBranch condRn rrrr s

/-- LBVC (R433): long branch. -/
def execLbvc (rrrr : Word) (s : State) : Out := longBranch condVc rrrr s

/-- LBVS (R434): long branch. -/
def execLbvs (rrrr : Word) (s : State) : Out := longBranch condVs rrrr s

/-- BRCLR (R435): branch when the masked bits of a memory byte are all 0. -/
def execBrclr (mm : Byte) (op : BrOp) (s : State) : Out :=
  let p := s.readByte (brEa op s)
  .next (branchIf (p.1 &&& mm == 0#8) (brOff op) (brLen op) p.2)

/-- BRSET (R436): branch when the masked bits of a memory byte are all 1. -/
def execBrset (mm : Byte) (op : BrOp) (s : State) : Out :=
  let p := s.readByte (brEa op s)
  .next (branchIf (~~~p.1 &&& mm == 0#8) (brOff op) (brLen op) p.2)

/-- JMP (R437): PK : PC <- the target. -/
def execJmp (op : JmpOp) (s : State) : Out := .next (s.jumpTo (jmpTarget op s))

/-- JSR (R439): the frame of ia + 6 is stacked, then PK : PC <- the target. -/
def execJsr (op : JmpOp) (s : State) : Out := .next ((s.pushFrame s.vpc).jumpTo (jmpTarget op s))

/-- BSR (R440): the frame of ia + 4 is stacked, then the branch is taken from BSR_BASE (log entry 14). -/
def execBsr (rr : Byte) (s : State) : Out :=
  let base : Addr := if s.platform.bsrBase4 then s.pc + 4 else s.pc + 6
  .next ((s.pushFrame (s.pc + 4)).jumpTo (base + sext20b rr))

/-- LBSR (R441): the frame of ia + 6 is stacked, then the branch is taken from ia + 6. -/
def execLbsr (rrrr : Word) (s : State) : Out := .next ((s.pushFrame s.vpc).jumpTo (s.vpc + sext20 rrrr))

/-- RTS (R442): PK : PC come back from a call frame. -/
def execRts (s : State) : Out := .next s.returnFromSubroutine

/-- RTI (R443): CCR and PK : PC come back from an exception frame. -/
def execRti (s : State) : Out := .next s.returnFromException

/-- SWI (R444): exception vector 6, with ia + 8 stacked. -/
def execSwi (s : State) : Out := .next (s.takeException .swi (s.pc + 8))

end Sys2Proof.Machine
end

