-- ==== Sys2Proof/Machine/StopWait.lean ====
section
/-!
DEFINITION. Stop, wait, background and null operation (spec 48_stop_wait_misc.md).
-/

namespace Sys2Proof.Machine

/-- LPSTOP (R610): with S set a null operation; with S clear, IP is handed out and the processor stops. -/
def execLpstop (s : State) : Out :=
  if s.ccr.s then .next (s.advance 2)
  else .next ({ s with
    run := .stopped
    hid := { s.hid with stopMask := s.ccr.ip }
    events := s.events ++ [Event.lpstopBroadcast s.ccr.ip] }.advance 2)

/-- WAI (R611): the processor waits for an interrupt or reset. -/
def execWai (s : State) : Out := .next ({ s with run := .waiting }.advance 2)

/-- BGND (R612): background mode when enabled, else the illegal instruction exception (60_exceptions.md R685). -/
def execBgnd (s : State) : Out :=
  if s.hid.bdmEnabled then .next ({ s with run := .background }.advance 2)
  else .next (s.takeException .illegal (s.pc + 8))

/-- NOP (R613): nothing but the program counter changes. -/
def execNop (s : State) : Out := .next (s.advance 2)

end Sys2Proof.Machine
end

