-- ==== Sys2Proof/Machine/Dispatch.lean ====
section
/-! DEFINITION. One arm per instruction: each is one call of the instruction's meaning. -/

namespace Sys2Proof.Machine

def exec (i : Instr) (s : State) : Host.Outcome State Fault Refusal :=
  match i with
  | .com m => Sys2Proof.Machine.execCom m s
  | .dec m => Sys2Proof.Machine.execDec m s
  | .neg m => Sys2Proof.Machine.execNeg m s
  | .inc m => Sys2Proof.Machine.execInc m s
  | .asl m => Sys2Proof.Machine.execAsl m s
  | .clr m => Sys2Proof.Machine.execClr m s
  | .tst m => Sys2Proof.Machine.execTst m s
  | .bclr mm m => Sys2Proof.Machine.execBclr mm m s
  | .bset mm m => Sys2Proof.Machine.execBset mm m s
  | .brclr mm op => Sys2Proof.Machine.execBrclr mm op s
  | .brset mm op => Sys2Proof.Machine.execBrset mm op s
  | .rol m => Sys2Proof.Machine.execRol m s
  | .asr m => Sys2Proof.Machine.execAsr m s
  | .ror m => Sys2Proof.Machine.execRor m s
  | .lsr m => Sys2Proof.Machine.execLsr m s
  | .movb op => Sys2Proof.Machine.execMovb op s
  | .movw op => Sys2Proof.Machine.execMovw op s
  | .pshm mask => Sys2Proof.Machine.execPshm mask s
  | .pulm mask => Sys2Proof.Machine.execPulm mask s
  | .bsr rr => Sys2Proof.Machine.execBsr rr s
  | .aix v => Sys2Proof.Machine.execAix v s
  | .aiy v => Sys2Proof.Machine.execAiy v s
  | .aiz v => Sys2Proof.Machine.execAiz v s
  | .ais v => Sys2Proof.Machine.execAis v s
  | .suba src => Sys2Proof.Machine.execSuba src s
  | .adda src => Sys2Proof.Machine.execAdda src s
  | .sbca src => Sys2Proof.Machine.execSbca src s
  | .adca src => Sys2Proof.Machine.execAdca src s
  | .eora src => Sys2Proof.Machine.execEora src s
  | .ldaa src => Sys2Proof.Machine.execLdaa src s
  | .anda src => Sys2Proof.Machine.execAnda src s
  | .oraa src => Sys2Proof.Machine.execOraa src s
  | .cmpa src => Sys2Proof.Machine.execCmpa src s
  | .bita src => Sys2Proof.Machine.execBita src s
  | .staa m => Sys2Proof.Machine.execStaa m s
  | .jmp op => Sys2Proof.Machine.execJmp op s
  | .cpx src => Sys2Proof.Machine.execCpx src s
  | .cpy src => Sys2Proof.Machine.execCpy src s
  | .cpz src => Sys2Proof.Machine.execCpz src s
  | .cps src => Sys2Proof.Machine.execCps src s
  | .mac xoyo => Sys2Proof.Machine.execMac xoyo s
  | .adde src => Sys2Proof.Machine.execAdde src s
  | .subd src => Sys2Proof.Machine.execSubd src s
  | .addd src => Sys2Proof.Machine.execAddd src s
  | .sbcd src => Sys2Proof.Machine.execSbcd src s
  | .adcd src => Sys2Proof.Machine.execAdcd src s
  | .eord src => Sys2Proof.Machine.execEord src s
  | .ldd src => Sys2Proof.Machine.execLdd src s
  | .andd src => Sys2Proof.Machine.execAndd src s
  | .ord src => Sys2Proof.Machine.execOrd src s
  | .cpd src => Sys2Proof.Machine.execCpd src s
  | .jsr op => Sys2Proof.Machine.execJsr op s
  | .std m => Sys2Proof.Machine.execStd m s
  | .stx m => Sys2Proof.Machine.execStx m s
  | .sty m => Sys2Proof.Machine.execSty m s
  | .stz m => Sys2Proof.Machine.execStz m s
  | .sts m => Sys2Proof.Machine.execSts m s
  | .bra rr => Sys2Proof.Machine.execBra rr s
  | .brn rr => Sys2Proof.Machine.execBrn rr s
  | .bhi rr => Sys2Proof.Machine.execBhi rr s
  | .bls rr => Sys2Proof.Machine.execBls rr s
  | .bcc rr => Sys2Proof.Machine.execBcc rr s
  | .bcs rr => Sys2Proof.Machine.execBcs rr s
  | .bne rr => Sys2Proof.Machine.execBne rr s
  | .beq rr => Sys2Proof.Machine.execBeq rr s
  | .bvc rr => Sys2Proof.Machine.execBvc rr s
  | .bvs rr => Sys2Proof.Machine.execBvs rr s
  | .bpl rr => Sys2Proof.Machine.execBpl rr s
  | .bmi rr => Sys2Proof.Machine.execBmi rr s
  | .bge rr => Sys2Proof.Machine.execBge rr s
  | .blt rr => Sys2Proof.Machine.execBlt rr s
  | .bgt rr => Sys2Proof.Machine.execBgt rr s
  | .ble rr => Sys2Proof.Machine.execBle rr s
  | .subb src => Sys2Proof.Machine.execSubb src s
  | .addb src => Sys2Proof.Machine.execAddb src s
  | .sbcb src => Sys2Proof.Machine.execSbcb src s
  | .adcb src => Sys2Proof.Machine.execAdcb src s
  | .eorb src => Sys2Proof.Machine.execEorb src s
  | .ldab src => Sys2Proof.Machine.execLdab src s
  | .andb src => Sys2Proof.Machine.execAndb src s
  | .orab src => Sys2Proof.Machine.execOrab src s
  | .cmpb src => Sys2Proof.Machine.execCmpb src s
  | .bitb src => Sys2Proof.Machine.execBitb src s
  | .stab m => Sys2Proof.Machine.execStab m s
  | .ldx src => Sys2Proof.Machine.execLdx src s
  | .ldy src => Sys2Proof.Machine.execLdy src s
  | .ldz src => Sys2Proof.Machine.execLdz src s
  | .lds src => Sys2Proof.Machine.execLds src s
  | .rmac xoyo => Sys2Proof.Machine.execRmac xoyo s
  | .comw m => Sys2Proof.Machine.execComw m s
  | .decw m => Sys2Proof.Machine.execDecw m s
  | .negw m => Sys2Proof.Machine.execNegw m s
  | .incw m => Sys2Proof.Machine.execIncw m s
  | .aslw m => Sys2Proof.Machine.execAslw m s
  | .clrw m => Sys2Proof.Machine.execClrw m s
  | .tstw m => Sys2Proof.Machine.execTstw m s
  | .bclrw mmmm m => Sys2Proof.Machine.execBclrw mmmm m s
  | .bsetw mmmm m => Sys2Proof.Machine.execBsetw mmmm m s
  | .rolw m => Sys2Proof.Machine.execRolw m s
  | .asrw m => Sys2Proof.Machine.execAsrw m s
  | .rorw m => Sys2Proof.Machine.execRorw m s
  | .lsrw m => Sys2Proof.Machine.execLsrw m s
  | .nop => Sys2Proof.Machine.execNop s
  | .tyx => Sys2Proof.Machine.execTyx s
  | .tzx => Sys2Proof.Machine.execTzx s
  | .tsx => Sys2Proof.Machine.execTsx s
  | .txy => Sys2Proof.Machine.execTxy s
  | .tzy => Sys2Proof.Machine.execTzy s
  | .tsy => Sys2Proof.Machine.execTsy s
  | .txz => Sys2Proof.Machine.execTxz s
  | .tyz => Sys2Proof.Machine.execTyz s
  | .tsz => Sys2Proof.Machine.execTsz s
  | .come => Sys2Proof.Machine.execCome s
  | .lded hhll => Sys2Proof.Machine.execLded hhll s
  | .nege => Sys2Proof.Machine.execNege s
  | .sted hhll => Sys2Proof.Machine.execSted hhll s
  | .asle => Sys2Proof.Machine.execAsle s
  | .clre => Sys2Proof.Machine.execClre s
  | .tste => Sys2Proof.Machine.execTste s
  | .rti => Sys2Proof.Machine.execRti s
  | .ade => Sys2Proof.Machine.execAde s
  | .sde => Sys2Proof.Machine.execSde s
  | .xgde => Sys2Proof.Machine.execXgde s
  | .tde => Sys2Proof.Machine.execTde s
  | .role => Sys2Proof.Machine.execRole s
  | .asre => Sys2Proof.Machine.execAsre s
  | .rore => Sys2Proof.Machine.execRore s
  | .lsre => Sys2Proof.Machine.execLsre s
  | .ldhi => Sys2Proof.Machine.execLdhi s
  | .tedm => Sys2Proof.Machine.execTedm s
  | .tem => Sys2Proof.Machine.execTem s
  | .tmxed => Sys2Proof.Machine.execTmxed s
  | .tmer => Sys2Proof.Machine.execTmer s
  | .tmet => Sys2Proof.Machine.execTmet s
  | .aslm => Sys2Proof.Machine.execAslm s
  | .clrm => Sys2Proof.Machine.execClrm s
  | .pshmac => Sys2Proof.Machine.execPshmac s
  | .pulmac => Sys2Proof.Machine.execPulmac s
  | .asrm => Sys2Proof.Machine.execAsrm s
  | .tekb => Sys2Proof.Machine.execTekb s
  | .comd => Sys2Proof.Machine.execComd s
  | .lpstop => Sys2Proof.Machine.execLpstop s
  | .negd => Sys2Proof.Machine.execNegd s
  | .wai => Sys2Proof.Machine.execWai s
  | .asld => Sys2Proof.Machine.execAsld s
  | .clrd => Sys2Proof.Machine.execClrd s
  | .tstd => Sys2Proof.Machine.execTstd s
  | .rts => Sys2Proof.Machine.execRts s
  | .sxt => Sys2Proof.Machine.execSxt s
  | .lbsr rrrr => Sys2Proof.Machine.execLbsr rrrr s
  | .tbek => Sys2Proof.Machine.execTbek s
  | .ted => Sys2Proof.Machine.execTed s
  | .rold => Sys2Proof.Machine.execRold s
  | .asrd => Sys2Proof.Machine.execAsrd s
  | .rord => Sys2Proof.Machine.execRord s
  | .lsrd => Sys2Proof.Machine.execLsrd s
  | .coma => Sys2Proof.Machine.execComa s
  | .deca => Sys2Proof.Machine.execDeca s
  | .nega => Sys2Proof.Machine.execNega s
  | .inca => Sys2Proof.Machine.execInca s
  | .asla => Sys2Proof.Machine.execAsla s
  | .clra => Sys2Proof.Machine.execClra s
  | .tsta => Sys2Proof.Machine.execTsta s
  | .tba => Sys2Proof.Machine.execTba s
  | .psha => Sys2Proof.Machine.execPsha s
  | .pula => Sys2Proof.Machine.execPula s
  | .sba => Sys2Proof.Machine.execSba s
  | .aba => Sys2Proof.Machine.execAba s
  | .rola => Sys2Proof.Machine.execRola s
  | .asra => Sys2Proof.Machine.execAsra s
  | .rora => Sys2Proof.Machine.execRora s
  | .lsra => Sys2Proof.Machine.execLsra s
  | .comb => Sys2Proof.Machine.execComb s
  | .decb => Sys2Proof.Machine.execDecb s
  | .negb => Sys2Proof.Machine.execNegb s
  | .incb => Sys2Proof.Machine.execIncb s
  | .aslb => Sys2Proof.Machine.execAslb s
  | .clrb => Sys2Proof.Machine.execClrb s
  | .tstb => Sys2Proof.Machine.execTstb s
  | .tab => Sys2Proof.Machine.execTab s
  | .pshb => Sys2Proof.Machine.execPshb s
  | .pulb => Sys2Proof.Machine.execPulb s
  | .xgab => Sys2Proof.Machine.execXgab s
  | .cba => Sys2Proof.Machine.execCba s
  | .rolb => Sys2Proof.Machine.execRolb s
  | .asrb => Sys2Proof.Machine.execAsrb s
  | .rorb => Sys2Proof.Machine.execRorb s
  | .lsrb => Sys2Proof.Machine.execLsrb s
  | .swi => Sys2Proof.Machine.execSwi s
  | .daa => Sys2Proof.Machine.execDaa s
  | .ace => Sys2Proof.Machine.execAce s
  | .aced => Sys2Proof.Machine.execAced s
  | .mul => Sys2Proof.Machine.execMul s
  | .emul => Sys2Proof.Machine.execEmul s
  | .emuls => Sys2Proof.Machine.execEmuls s
  | .fmuls => Sys2Proof.Machine.execFmuls s
  | .ediv => Sys2Proof.Machine.execEdiv s
  | .edivs => Sys2Proof.Machine.execEdivs s
  | .idiv => Sys2Proof.Machine.execIdiv s
  | .fdiv => Sys2Proof.Machine.execFdiv s
  | .tpd => Sys2Proof.Machine.execTpd s
  | .tdp => Sys2Proof.Machine.execTdp s
  | .tdmsk => Sys2Proof.Machine.execTdmsk s
  | .sube src => Sys2Proof.Machine.execSube src s
  | .sbce src => Sys2Proof.Machine.execSbce src s
  | .adce src => Sys2Proof.Machine.execAdce src s
  | .eore src => Sys2Proof.Machine.execEore src s
  | .lde src => Sys2Proof.Machine.execLde src s
  | .ande src => Sys2Proof.Machine.execAnde src s
  | .ore src => Sys2Proof.Machine.execOre src s
  | .cpe src => Sys2Proof.Machine.execCpe src s
  | .andp jjkk => Sys2Proof.Machine.execAndp jjkk s
  | .orp jjkk => Sys2Proof.Machine.execOrp jjkk s
  | .ste m => Sys2Proof.Machine.execSte m s
  | .xgex => Sys2Proof.Machine.execXgex s
  | .aex => Sys2Proof.Machine.execAex s
  | .txs => Sys2Proof.Machine.execTxs s
  | .abx => Sys2Proof.Machine.execAbx s
  | .xgey => Sys2Proof.Machine.execXgey s
  | .aey => Sys2Proof.Machine.execAey s
  | .tys => Sys2Proof.Machine.execTys s
  | .aby => Sys2Proof.Machine.execAby s
  | .xgez => Sys2Proof.Machine.execXgez s
  | .aez => Sys2Proof.Machine.execAez s
  | .tzs => Sys2Proof.Machine.execTzs s
  | .abz => Sys2Proof.Machine.execAbz s
  | .lbra rrrr => Sys2Proof.Machine.execLbra rrrr s
  | .lbrn rrrr => Sys2Proof.Machine.execLbrn rrrr s
  | .lbhi rrrr => Sys2Proof.Machine.execLbhi rrrr s
  | .lbls rrrr => Sys2Proof.Machine.execLbls rrrr s
  | .lbcc rrrr => Sys2Proof.Machine.execLbcc rrrr s
  | .lbcs rrrr => Sys2Proof.Machine.execLbcs rrrr s
  | .lbne rrrr => Sys2Proof.Machine.execLbne rrrr s
  | .lbeq rrrr => Sys2Proof.Machine.execLbeq rrrr s
  | .lbvc rrrr => Sys2Proof.Machine.execLbvc rrrr s
  | .lbvs rrrr => Sys2Proof.Machine.execLbvs rrrr s
  | .lbpl rrrr => Sys2Proof.Machine.execLbpl rrrr s
  | .lbmi rrrr => Sys2Proof.Machine.execLbmi rrrr s
  | .lbge rrrr => Sys2Proof.Machine.execLbge rrrr s
  | .lblt rrrr => Sys2Proof.Machine.execLblt rrrr s
  | .lbgt rrrr => Sys2Proof.Machine.execLbgt rrrr s
  | .lble rrrr => Sys2Proof.Machine.execLble rrrr s
  | .lbmv rrrr => Sys2Proof.Machine.execLbmv rrrr s
  | .lbev rrrr => Sys2Proof.Machine.execLbev rrrr s
  | .tbxk => Sys2Proof.Machine.execTbxk s
  | .tbyk => Sys2Proof.Machine.execTbyk s
  | .tbzk => Sys2Proof.Machine.execTbzk s
  | .tbsk => Sys2Proof.Machine.execTbsk s
  | .bgnd => Sys2Proof.Machine.execBgnd s
  | .txkb => Sys2Proof.Machine.execTxkb s
  | .tykb => Sys2Proof.Machine.execTykb s
  | .tzkb => Sys2Proof.Machine.execTzkb s
  | .tskb => Sys2Proof.Machine.execTskb s
  | .xgdx => Sys2Proof.Machine.execXgdx s
  | .adx => Sys2Proof.Machine.execAdx s
  | .xgdy => Sys2Proof.Machine.execXgdy s
  | .ady => Sys2Proof.Machine.execAdy s
  | .xgdz => Sys2Proof.Machine.execXgdz s
  | .adz => Sys2Proof.Machine.execAdz s
  | .tpa => Sys2Proof.Machine.execTpa s
  | .tap => Sys2Proof.Machine.execTap s

end Sys2Proof.Machine
end

