-- ==== Sys2Proof/Machine/Cycle.lean ====
section
/-!
DEFINITION. What one step does (spec 00_scope.md R8): the inputs, reset, the idle states, the instruction boundary
(60_exceptions.md R640), the fetch and the instruction (30_encoding.md R150, 70_reset_and_hazards.md R740, R742).
-/

namespace Sys2Proof.Machine

/-! ### Inputs -/

/-- The inputs of this step from the script, idle when it is empty; nothing stored yet (log entry 5). -/
def State.takeInputs (s : State) : State :=
  match s.script with
  | [] => { s with pins := Pins.idle, stores := [] }
  | p :: rest => { s with pins := p, script := rest, stores := [] }

/-- The IRQ7 line. -/
def State.irq7Line (s : State) : Bool := s.pins.irq.getLsbD 7

/-- Sample IRQ7 at a boundary: a negated-to-asserted transition makes a request pending
(60_exceptions.md R672 (a)). -/
def State.sampleIrq7 (s : State) : State :=
  { s with
    hid := { s.hid with
      irq7Pending := s.hid.irq7Pending || (s.irq7Line && !s.hid.irq7Prev)
      irq7Prev := s.irq7Line } }

/-- The request of a level is recognised over a mask (60_exceptions.md R671). -/
def recognised (mask : BitVec 3) (s : State) (level : BitVec 3) : Bool :=
  if level = 7#3 then s.hid.irq7Pending
  else s.pins.irq.getLsbD level.toNat && decide (mask.toNat < level.toNat)

/-- The interrupt levels, highest first; level 0 is no request (60_exceptions.md R640, R671). -/
def levels : List (BitVec 3) := [7#3, 6#3, 5#3, 4#3, 3#3, 2#3, 1#3]

/-- The greatest recognised level (60_exceptions.md R671). -/
def topInterrupt (mask : BitVec 3) (s : State) : Option (BitVec 3) := levels.find? (recognised mask s)

/-! ### Reset -/

/-- RESET as asserted and negated, up to the vector fetch; the BKPT sample is read afresh from the inputs of the step
(70_reset_and_hazards.md R720, R724, R725). -/
def State.resetEntry (s : State) : State :=
  { s with
    ccr := { s.ccr with ip := 7#3, s := true, sm := false }
    ek := 0#4, xk := 0#4, yk := 0#4, zk := 0#4
    run := .running
    hid := { s.hid with
      bdmEnabled := s.pins.bdmEnabled, berrLatch := false, berrWait := 0, bkptPending := false,
      irq7Pending := false, irq7Prev := s.irq7Line, faultWindow := true, irqInhibit := true } }

/-- The registers the reset vector loads (70_reset_and_hazards.md R720, R721). -/
def State.loadResetVector (w0 w1 w2 w3 : Word) (s : State) : State :=
  { s.jumpTo (w0.extractLsb' 0 4 ++ w1) with
    zk := w0.extractLsb' 8 4, sk := w0.extractLsb' 4 4, sp := w2, iz := w3 }

/-- The reset sequence (70_reset_and_hazards.md R720). A bus error on a vector read is a double bus fault and nothing
is loaded (R725; log entry 10). -/
def State.resetSequence (s : State) : State :=
  let p0 := s.resetEntry.progRead 0x00000#20
  if p0.2.run = .running then
    let p1 := p0.2.progRead 0x00002#20
    if p1.2.run = .running then
      let p2 := p1.2.progRead 0x00004#20
      if p2.2.run = .running then
        let p3 := p2.2.progRead 0x00006#20
        if p3.2.run = .running then p3.2.loadResetVector p0.1 p1.1 p2.1 p3.1 else p3.2
      else p2.2
    else p1.2
  else p0.2

/-- A register or byte that the aborted step changed is `any value` (92_eei_decisions.md D3; log entry 20). -/
def anyIf {α : Type} [DecidableEq α] (old new free : α) : α := if old = new then new else free

/-- The bytes an aborted step stored: each is `any value` where it changed (70_reset_and_hazards.md R722). -/
def abortStores (old : State) (places : List (Space × Addr)) (t : State) : State :=
  match places with
  | [] => t
  | (sp, a) :: rest =>
    abortStores old rest
      (t.bump.poke sp a (anyIf (old.peek sp a) (t.peek sp a) (Config.anyByte t.draws)))

/-- RESET inside a step: of what the aborted step `t` changed in `old`, nothing is known
(70_reset_and_hazards.md R722; 92_eei_decisions.md D3; log entry 20). -/
def abortStep (old t0 : State) : State :=
  let t := abortStores old t0.stores t0
  let n := t.draws
  { t with
    draws := n + 28
    a := anyIf old.a t.a (Config.anyByte n)
    b := anyIf old.b t.b (Config.anyByte (n + 1))
    e := anyIf old.e t.e (Config.anyWord (n + 2))
    ix := anyIf old.ix t.ix (Config.anyWord (n + 3))
    iy := anyIf old.iy t.iy (Config.anyWord (n + 4))
    iz := anyIf old.iz t.iz (Config.anyWord (n + 5))
    sp := anyIf old.sp t.sp (Config.anyWord (n + 6))
    sk := anyIf old.sk t.sk ((Config.anyWord (n + 7)).extractLsb' 0 4)
    ccr := { t.ccr with
      mv := anyIf old.ccr.mv t.ccr.mv (Config.anyBit (n + 8))
      h := anyIf old.ccr.h t.ccr.h (Config.anyBit (n + 9))
      ev := anyIf old.ccr.ev t.ccr.ev (Config.anyBit (n + 10))
      n := anyIf old.ccr.n t.ccr.n (Config.anyBit (n + 11))
      z := anyIf old.ccr.z t.ccr.z (Config.anyBit (n + 12))
      v := anyIf old.ccr.v t.ccr.v (Config.anyBit (n + 13))
      c := anyIf old.ccr.c t.ccr.c (Config.anyBit (n + 14)) }
    mac :=
      { hr := anyIf old.mac.hr t.mac.hr (Config.anyWord (n + 15))
        ir := anyIf old.mac.ir t.mac.ir (Config.anyWord (n + 16))
        am := anyIf old.mac.am t.mac.am (Config.anyAcc (n + 17))
        xmsk := anyIf old.mac.xmsk t.mac.xmsk (Config.anyByte (n + 18))
        ymsk := anyIf old.mac.ymsk t.mac.ymsk (Config.anyByte (n + 19))
        sl := anyIf old.mac.sl t.mac.sl (Config.anyBit (n + 20)) } }

/-! ### The instruction -/

/-- The double-bus-fault window closes when an instruction starts; the BERR latch is cleared with it
(60_exceptions.md R650, R652). -/
def State.closeWindow (s : State) : State :=
  if s.hid.faultWindow then { s with hid := { s.hid with faultWindow := false, berrLatch := false } } else s

/-- The addresses of the words an instruction of `n` words owns. -/
def ownWords (ia : Addr) (n : Nat) : List Addr := (List.range n).map fun k => ia + BitVec.ofNat 20 (2 * k)

/-- The tag of a breakpoint on the instruction's own words acts when the instruction has executed
(60_exceptions.md R660; 92_eei_decisions.md D21). -/
def State.tagBreakpoint (ia : Addr) (words : Nat) (s : State) : State :=
  if s.bkptHit .program false (ownWords ia words) then { s with hid := { s.hid with bkptPending := true } } else s

/-- A suspended RMAC has not completed: its tag waits for the completion (47_dsp.md R594; log entry 13). -/
def completed (i : Instr) (ia : Addr) (t : State) : Bool :=
  match i with
  | .rmac _ => !(t.pc == ia)
  | _ => true

/-- The step changed a byte of `ia + 2 .. ia + 5 + len`, the words the pipeline may already hold, in a program space
that is the data space (20_memory.md R123; 70_reset_and_hazards.md R742; log entry 15). `old` is the state before. -/
def staleStore (old : State) (len : Nat) (t : State) : Bool :=
  !t.platform.splitSpaces &&
    t.stores.any fun p =>
      (p.1 == .data) && decide ((p.2 - (old.pc + 2)).toNat ≤ len + 3) && !(old.peek .data p.2 == t.peek .data p.2)

/-- After a decoded instruction: the stale-prefetch refusal, then the breakpoint tag. `old` is the state before. -/
def finishInstruction (i : Instr) (old t : State) : Out :=
  if staleStore old i.length t then .refused .storeIntoPrefetch
  else if completed i old.pc t then .next (t.tagBreakpoint old.pc (i.length / 2))
  else .next t

/-- Execute the decoded instruction, or take the illegal instruction exception (60_exceptions.md R684). DESIGN CHOICE, log
entry 15: the frame of an undefined opcode is never refused as a store into the prefetched words, since the spec gives
such an opcode no length to bound the window with (70_reset_and_hazards.md R742). -/
def executeDecoded (w0 w1 w2 : Word) (s : State) : Out :=
  match decode w0 w1 w2 with
  | .error _ => .next ((s.takeException .illegal (s.pc + 8)).tagBreakpoint s.pc 1)
  | .ok i =>
    match exec i s with
    | .next t => finishInstruction i s t
    | .fault r => .fault r
    | .refused r => .refused r

/-- A double bus fault on the fetch of a BERR handler: the four bytes of the frame on top of the stack are `any value`
with PK:PC. The latch tells it from the fetch after RESET, which has no frame (60_exceptions.md R650, R652;
93_implementation_defined.md U10; log entry 10). -/
def State.abandonFetch (s : State) : State :=
  if s.hid.berrLatch then s.looseBytes (frameAddresses (s.skSp + 4) 2) else s

/-- Fetch the three words the hardware reads, and execute (30_encoding.md R150; 70_reset_and_hazards.md R740). The
double-bus-fault window covers the first two reads (60_exceptions.md R652). -/
def runInstruction (s : State) : Out :=
  let p0 := s.progRead s.pc
  if p0.2.run = .running then
    let p1 := p0.2.progRead (s.pc + 2)
    if p1.2.run = .running then
      let p2 := p1.2.closeWindow.progRead (s.pc + 4)
      executeDecoded p0.1 p1.1 p2.1 p2.2
    else .next p1.2.abandonFetch
  else .next p0.2.abandonFetch

/-! ### The boundary -/

/-- A latched bus error is due (60_exceptions.md R651). -/
def State.berrDue (s : State) : Bool := s.hid.berrLatch && !s.hid.faultWindow && (s.hid.berrWait == 0)

/-- BERR exception processing opens the double-bus-fault window (60_exceptions.md R650, R652). -/
def State.takeBerr (s : State) : State :=
  { s with hid := { s.hid with faultWindow := true } }.takeException .berr (s.pc + 6)

/-- An acknowledged breakpoint: background mode when enabled, else the exception (60_exceptions.md R661). -/
def State.takeBkpt (s : State) : State :=
  let t := { s with hid := { s.hid with bkptPending := false } }
  if t.hid.bdmEnabled then { t with run := .background } else t.takeException .bkpt (t.pc + 6)

/-- The last test of the boundary: interrupts, unless inhibited for one instruction (60_exceptions.md R640, R676). DESIGN
CHOICE, log entry 33: the inhibit is used up when an RMAC starts, so an RMAC that it protected and that is suspended may be
interrupted at that iteration boundary (47_dsp.md R594). -/
def interruptOrRun (s : State) : Out :=
  if s.hid.irqInhibit then runInstruction { s with hid := { s.hid with irqInhibit := false } }
  else
    match topInterrupt s.ccr.ip s with
    | some level => .next (s.takeException (.interrupt level) (s.pc + 6))
    | none => runInstruction s

/-- A step while running: BERR, then BKPT, then interrupts, then the instruction (60_exceptions.md R640). DESIGN CHOICES
with BERR_DELAY 1: every boundary counts in the countdown of R651, the iteration boundary at which an RMAC is suspended
(47_dsp.md R594; log entry 34) and one at which a breakpoint or an interrupt is taken (log entry 35) among them; and a
breakpoint comes before a bus error of the same bus cycle that is not yet due (R661; log entry 36). -/
def runningStep (s0 : State) : Out :=
  let s := s0.sampleIrq7
  if s.berrDue then .next s.takeBerr
  else
    let t := { s with hid := { s.hid with berrWait := s.hid.berrWait - 1 } }
    if t.hid.bkptPending then .next t.takeBkpt else interruptOrRun t

/-- A step while stopped or waiting: an interrupt above the mask ends it, nothing else does
(48_stop_wait_misc.md R610, R611; 92_eei_decisions.md D19). -/
def idleStep (mask : BitVec 3) (s0 : State) : State :=
  let s := s0.sampleIrq7
  match topInterrupt mask s with
  | some level => s.takeException (.interrupt level) (s.pc + 6)
  | none => s

/-- A step with RESET not asserted, by `run_state` (00_scope.md R8 items 2 to 5). -/
def stepBody (s : State) : Out :=
  match s.run with
  | .running => runningStep s
  | .stopped => .next (idleStep s.hid.stopMask s)
  | .waiting => .next (idleStep s.ccr.ip s)
  | .halted => .next s
  | .background => .next (bdmStep s)

/-- One step of the machine (00_scope.md R8). -/
def cycle (s0 : State) : Out :=
  let s := s0.takeInputs
  match s.pins.reset with
  | .off => stepBody s
  | .between => .next s.resetSequence
  | .inside =>
    match stepBody s with
    | .next t => .next (abortStep s t).resetSequence
    | .fault r => .fault r
    | .refused r => .refused r

/-- Store an instruction word big-endian in program space, with no bus cycle and no record (20_memory.md R100). -/
def State.placeWord (a : Addr) (w : Word) (s : State) : State :=
  if s.platform.splitSpaces then
    { s with pmem := Memory.set (Memory.set s.pmem a.toNat (hi w)) (a + 1).toNat (lo w) }
  else { s with mem := Memory.set (Memory.set s.mem a.toNat (hi w)) (a + 1).toNat (lo w) }

end Sys2Proof.Machine
end

