-- ==== Sys2Proof/Machine/Step.lean ====
section
/-! DEFINITION. The step of the machine and the host's placing of one instruction (log entry 3). -/

namespace Sys2Proof.Machine

/-- One step (00_scope.md R8); all of it is `cycle`. -/
def step (s : State) : Host.Outcome State Fault Refusal := cycle s

/-- The instruction with bits `w`, every bit at or above `nbits` zero, stored at PK:PC, where the next fetch reads:
three words, the longest an instruction is (30_encoding.md R150). -/
def State.withFetchWord (s : State) (nbits w : Nat) : State :=
  ((s.placeWord s.pc (tableWord nbits w 0)).placeWord (s.pc + 2) (tableWord nbits w 1)).placeWord (s.pc + 4)
    (tableWord nbits w 2)

end Sys2Proof.Machine
end

