-- ==== Sys2Proof/Safety.lean ====
section
/-!
DEFINITION. The terms in which claims are made: the invariant that every step keeps, the platforms on which results
are exact, what an instruction leaves alone, and the spec's results as statements about integers.
-/

namespace Sys2Proof.Machine

/-! ### Premises -/

/-- The invariant of the machine: both memories in canonical form, and bit 0 of PC zero (10_state.md R34). -/
structure State.Inv (s : State) : Prop where
  mem_wf : Memory.wf s.mem = true
  pmem_wf : Memory.wf s.pmem = true
  pc_even : s.pc.getLsbD 0 = false

/-- The platform ends no bus cycle with BERR, asserts BKPT on none and has no other bus master: the defaults of
00_scope.md R12. -/
structure State.Quiet (s : State) : Prop where
  no_berr : s.platform.busErrors = []
  no_bkpt : s.platform.bkpts = []
  no_masters : s.platform.externalMasters = false

/-! ### What is left alone -/

/-- The parts of the state outside memory and the program counter. -/
inductive Loc where
  | a
  | b
  | e
  | ix
  | iy
  | iz
  | sp
  | ek
  | xk
  | yk
  | zk
  | sk
  | s
  | mv
  | h
  | ev
  | n
  | z
  | v
  | c
  | ip
  | sm
  | hr
  | ir
  | am
  | xmsk
  | ymsk
  | sl
  | run
  | bdmEnabled
  | berrLatch
  | berrWait
  | inhibit
  | irq7Pending
  | irq7Prev
  | bkptPending
  | faultWindow
  | stopMask
  | platform
  | inputs
  | events
deriving DecidableEq, Repr

/-- The part is the same in both states. -/
def Loc.kept (l : Loc) (s t : State) : Prop :=
  match l with
  | .a => t.a = s.a
  | .b => t.b = s.b
  | .e => t.e = s.e
  | .ix => t.ix = s.ix
  | .iy => t.iy = s.iy
  | .iz => t.iz = s.iz
  | .sp => t.sp = s.sp
  | .ek => t.ek = s.ek
  | .xk => t.xk = s.xk
  | .yk => t.yk = s.yk
  | .zk => t.zk = s.zk
  | .sk => t.sk = s.sk
  | .s => t.ccr.s = s.ccr.s
  | .mv => t.ccr.mv = s.ccr.mv
  | .h => t.ccr.h = s.ccr.h
  | .ev => t.ccr.ev = s.ccr.ev
  | .n => t.ccr.n = s.ccr.n
  | .z => t.ccr.z = s.ccr.z
  | .v => t.ccr.v = s.ccr.v
  | .c => t.ccr.c = s.ccr.c
  | .ip => t.ccr.ip = s.ccr.ip
  | .sm => t.ccr.sm = s.ccr.sm
  | .hr => t.mac.hr = s.mac.hr
  | .ir => t.mac.ir = s.mac.ir
  | .am => t.mac.am = s.mac.am
  | .xmsk => t.mac.xmsk = s.mac.xmsk
  | .ymsk => t.mac.ymsk = s.mac.ymsk
  | .sl => t.mac.sl = s.mac.sl
  | .run => t.run = s.run
  | .bdmEnabled => t.hid.bdmEnabled = s.hid.bdmEnabled
  | .berrLatch => t.hid.berrLatch = s.hid.berrLatch
  | .berrWait => t.hid.berrWait = s.hid.berrWait
  | .inhibit => t.hid.irqInhibit = s.hid.irqInhibit
  | .irq7Pending => t.hid.irq7Pending = s.hid.irq7Pending
  | .irq7Prev => t.hid.irq7Prev = s.hid.irq7Prev
  | .bkptPending => t.hid.bkptPending = s.hid.bkptPending
  | .faultWindow => t.hid.faultWindow = s.hid.faultWindow
  | .stopMask => t.hid.stopMask = s.hid.stopMask
  | .platform => t.platform = s.platform
  | .inputs => t.pins = s.pins ∧ t.script = s.script
  | .events => t.events = s.events

/-- Nothing but the parts `may` and the bytes at the data-space addresses `bytes` differs: every other part, every
other byte of data space and, where the platform splits the spaces, every byte of program space is as before. -/
structure Frame (may : List Loc) (bytes : List Addr) (s t : State) : Prop where
  parts : ∀ l, l ∉ may → l.kept s t
  data : ∀ x, x ∉ bytes → t.peek .data x = s.peek .data x
  program : s.platform.splitSpaces = true → ∀ x, t.peek .program x = s.peek .program x

/-- The two bytes of a word in memory (20_memory.md R102). -/
def wordAt (a : Addr) : List Addr := [a, a + 1]

/-- The flags that RTI, PULM, ANDP, ORP and TDP may write: CCR[15:4] (10_state.md R49). -/
def ccrLocs : List Loc := [.s, .mv, .h, .ev, .n, .z, .v, .c, .ip, .sm]

/-- The parts an 8-bit accumulator is. -/
def R8.locs (r : R8) : List Loc :=
  match r with
  | .a => [.a]
  | .b => [.b]

/-- The parts a 16-bit register is; D is A and B (10_state.md R22). -/
def R16.locs (r : R16) : List Loc :=
  match r with
  | .d => [.a, .b]
  | .e => [.e]
  | .ix => [.ix]
  | .iy => [.iy]
  | .iz => [.iz]
  | .sp => [.sp]

/-- The parts an index register with its extension field is. -/
def pointerLocs (r : Idx) : List Loc :=
  match r with
  | .x => [.ix, .xk]
  | .y => [.iy, .yk]
  | .z => [.iz, .zk]

/-- Execution goes on with the instruction after `i` (00_scope.md R7). -/
def GoesOn (i : Instr) (s t : State) : Prop := t.pc = s.pc + BitVec.ofNat 20 i.length

/-- Execution goes on at `target`, with bit 0 forced to 0 (10_state.md R34). -/
def GoesTo (target : Int) (t : State) : Prop := (t.pc.toNat : Int) = target % 2 ^ 20 / 2 * 2

/-! ### Operands -/

/-- The value a byte source stands for (30_encoding.md R161). -/
def value8 (src : Src8) (s : State) : Byte :=
  match src with
  | .imm ii => ii
  | .mem m => s.peek .data (ea m s)

/-- The value a word source stands for (30_encoding.md R161, R162). -/
def value16 (src : Src16) (s : State) : Word :=
  match src with
  | .imm8 ii => BitVec.ofInt 16 ii.toInt
  | .imm16 jjkk => jjkk
  | .mem m => s.peekWord .data (ea m s)

/-! ### Results as integers -/

/-- N and Z of a result. -/
def SetsNZ {w : Nat} (r : BitVec w) (c : Ccr) : Prop := c.n = decide (r.toInt < 0) ∧ c.z = decide (r.toNat = 0)

/-- `x` is not a `w`-bit two's complement number. -/
def outOfRange (w : Nat) (x : Int) : Bool := decide (x < -2 ^ (w - 1)) || decide (2 ^ (w - 1) ≤ x)

/-- `r` and N, Z, V, C are those of the sum `x + y + cin` (41_add_sub_compare.md R240). -/
def IsSum {w : Nat} (x y : BitVec w) (cin : Bool) (r : BitVec w) (c : Ccr) : Prop :=
  r.toNat = (x.toNat + y.toNat + cin.toNat) % 2 ^ w ∧ SetsNZ r c ∧
    c.v = outOfRange w (x.toInt + y.toInt + cin.toNat) ∧
    c.c = decide (2 ^ w ≤ x.toNat + y.toNat + cin.toNat)

/-- `r` and N, Z, V, C are those of the difference `x - y - cin` (41_add_sub_compare.md R240). -/
def IsDifference {w : Nat} (x y : BitVec w) (cin : Bool) (r : BitVec w) (c : Ccr) : Prop :=
  (r.toNat : Int) = ((x.toNat : Int) - y.toNat - cin.toNat) % 2 ^ w ∧ SetsNZ r c ∧
    c.v = outOfRange w (x.toInt - y.toInt - cin.toNat) ∧
    c.c = decide (x.toNat < y.toNat + cin.toNat)

/-- N and Z are those of `r`, and V is clear (40_data_movement.md R201, 43_logic_bit_shift.md R340). -/
def IsResult {w : Nat} (r : BitVec w) (c : Ccr) : Prop := SetsNZ r c ∧ c.v = false

/-- The three bitwise operations of 43_logic_bit_shift.md R340. -/
inductive Bitwise where
  | and
  | or
  | eor
deriving DecidableEq, Repr

/-- A bitwise operation on one bit. -/
def Bitwise.bit (op : Bitwise) (x y : Bool) : Bool :=
  match op with
  | .and => x && y
  | .or => x || y
  | .eor => x != y

/-- `r` is the bitwise combination of `x` and `y`. -/
def IsBitwise {w : Nat} (op : Bitwise) (x y r : BitVec w) : Prop :=
  ∀ k, k < w → r.getLsbD k = op.bit (x.getLsbD k) (y.getLsbD k)

/-- The eleven operations on one operand. -/
inductive Unary where
  | com
  | dec
  | neg
  | inc
  | asl
  | clr
  | tst
  | rol
  | asr
  | ror
  | lsr
deriving DecidableEq, Repr

/-- The flags of a shift or rotate whose shifted-out bit is `out` (43_logic_bit_shift.md R359). -/
def SetsShift {w : Nat} (r : BitVec w) (out : Bool) (c : Ccr) : Prop :=
  SetsNZ r c ∧ c.c = out ∧ c.v = (c.n != out)

/-- `r` and N, Z, V, C in `c` are what the operation makes of the operand `v` and the old flags
(42_mul_div_inc_clr.md R299 to R324, 43_logic_bit_shift.md R359, 41_add_sub_compare.md R268). -/
def IsUnary {w : Nat} (op : Unary) (v : BitVec w) (old : Ccr) (r : BitVec w) (c : Ccr) : Prop :=
  match op with
  | .com => r.toNat + v.toNat = 2 ^ w - 1 ∧ SetsNZ r c ∧ c.v = false ∧ c.c = true
  | .dec =>
    r.toNat = (v.toNat + 2 ^ w - 1) % 2 ^ w ∧ SetsNZ r c ∧ c.v = decide (v.toNat = 2 ^ (w - 1)) ∧ c.c = old.c
  | .neg =>
    r.toNat = (2 ^ w - v.toNat) % 2 ^ w ∧ SetsNZ r c ∧ c.v = decide (r.toNat = 2 ^ (w - 1)) ∧
      c.c = decide (v.toNat ≠ 0)
  | .inc =>
    r.toNat = (v.toNat + 1) % 2 ^ w ∧ SetsNZ r c ∧ c.v = decide (v.toNat = 2 ^ (w - 1) - 1) ∧ c.c = old.c
  | .asl => r.toNat = 2 * v.toNat % 2 ^ w ∧ SetsShift r (decide (2 ^ (w - 1) ≤ v.toNat)) c
  | .clr => r.toNat = 0 ∧ c.n = false ∧ c.z = true ∧ c.v = false ∧ c.c = false
  | .tst => r = v ∧ SetsNZ r c ∧ c.v = false ∧ c.c = false
  | .rol => r.toNat = (2 * v.toNat + old.c.toNat) % 2 ^ w ∧ SetsShift r (decide (2 ^ (w - 1) ≤ v.toNat)) c
  | .asr => r.toInt = v.toInt / 2 ∧ SetsShift r (decide (v.toNat % 2 = 1)) c
  | .ror => r.toNat = v.toNat / 2 + old.c.toNat * 2 ^ (w - 1) ∧ SetsShift r (decide (v.toNat % 2 = 1)) c
  | .lsr => r.toNat = v.toNat / 2 ∧ SetsShift r (decide (v.toNat % 2 = 1)) c

/-- AM, EV, MV and SL after `x` was added to AM (47_dsp.md R571 to R574). -/
def Accumulates (x : Int) (s t : State) : Prop :=
  let sum := s.mac.am.toInt + x
  let lost := outOfRange 36 sum
  t.mac.am = BitVec.ofInt 36 sum ∧
    t.ccr.ev = (lost || outOfRange 32 t.mac.am.toInt) ∧
    t.ccr.mv = (s.ccr.mv || lost) ∧
    t.mac.sl = if lost && !s.ccr.mv then decide (0 ≤ sum) else s.mac.sl

/-- The value MAC and RMAC give an index register under a regular mask `2^k - 1`; mask 0 gives the plain sum
(47_dsp.md R584). -/
def moduloIndex (i : Word) (msk : Byte) (o : Nibble) : Int :=
  let sum := (i.toNat : Int) + o.toInt
  if msk = 0#8 then sum % 65536
  else (i.toNat : Int) / (msk.toNat + 1) * (msk.toNat + 1) + sum % (msk.toNat + 1)

/-- The mask is `2^k - 1` for some k from 0 to 8 (47_dsp.md R584). -/
def RegularMask (msk : Byte) : Prop := ∃ k ≤ 8, msk.toNat = 2 ^ k - 1

/-- The value Table 11-2 saturates to (47_dsp.md R590). -/
def saturation (mv sl : Bool) (am : Acc) : Word :=
  if mv then (if sl then 0x7FFF#16 else 0x8000#16) else (if am.toInt < 0 then 0x8000#16 else 0x7FFF#16)

/-- E is the value delivered, or the saturation value when SM is set with EV or MV; N and Z are of E
(47_dsp.md R590 to R592). -/
def Delivers (v : Int) (s t : State) : Prop :=
  t.e = (if t.ccr.sm && (t.ccr.ev || t.ccr.mv) then saturation t.ccr.mv t.mac.sl s.mac.am else BitVec.ofInt 16 v) ∧
    SetsNZ t.e t.ccr

/-! ### The stack and exceptions -/

/-- The frame of a call or exception stands on the stack below the old SK : SP: the PC word, then CCR[15:4] with the
bank of the stacked address (44_program_control.md R438, 60_exceptions.md R680). -/
def FrameStacked (ret : Addr) (s t : State) : Prop :=
  t.skSp = s.skSp - 4 ∧ t.peekWord .data s.skSp = offset ret ∧
    t.peekWord .data (s.skSp - 2) = s.ccr.pack (bank ret)

/-- The bytes such a frame takes. -/
def frameBytes (s : State) : List Addr := wordAt s.skSp ++ wordAt (s.skSp - 2)

/-- An exception was taken through vector number `n` with `ret` stacked: PK clear and PC the vector, IP `ip`, running,
the next boundary without interrupts, nothing else changed but the parts `more` (60_exceptions.md R683, R644). The
vector is read after the frame was stacked. -/
def Entered (n : Nat) (ret : Addr) (ip : BitVec 3) (more : List Loc) (s t : State) : Prop :=
  FrameStacked ret s t ∧ GoesTo (t.peekWord .data (BitVec.ofNat 20 (2 * n))).toNat t ∧
    t.ccr.ip = ip ∧ t.run = .running ∧ t.hid.irqInhibit = true ∧
    Frame ([.sp, .sk, .ip, .run, .inhibit] ++ more) (frameBytes s) s t

/-- The platform lets exception processing through vector `n` complete: neither push nor the vector read ends in BERR,
and no other bus master writes in between (60_exceptions.md R683, 20_memory.md R125). -/
structure State.EntryClear (n : Nat) (s : State) : Prop where
  no_error : s.entryError n = false
  no_masters : s.platform.externalMasters = false

/-- BKPT is asserted on one of the data-space transfers of exception processing through vector `n`
(60_exceptions.md R660, R683). -/
def State.entryBreak (n : Nat) (s : State) : Bool :=
  s.bkptHit .data true (wordCycles s.skSp) || s.bkptHit .data true (wordCycles (s.skSp - 2)) ||
    s.bkptHit .data false (wordCycles (BitVec.ofNat 20 (2 * n)))

/-- A bus error was latched, with the countdown of BERR_DELAY when none was latched before (60_exceptions.md R650,
R651). -/
def BerrLatched (s t : State) : Prop :=
  t.hid.berrLatch = true ∧
    t.hid.berrWait = if s.hid.berrLatch then s.hid.berrWait else if s.platform.berrDelay then 1 else 0

/-- The outcome of a double bus fault (60_exceptions.md R652). -/
def afterDoubleFault (bdmEnabled : Bool) : RunState := if bdmEnabled then .background else .halted

/-- How many of the bits of a PSHM or PULM mask below bit `k` are set (46_stacking_ccr.md R550, R551). -/
def setBelow (mask : Byte) (k : Nat) : Nat := ((List.range k).filter fun j => mask.getLsbD j).length

/-! ### Steps -/

/-- IRQ7 is pending at this boundary with the inputs `p`: it was, or the line has risen (60_exceptions.md R672). -/
def nmi (p : Pins) (s : State) : Bool := s.hid.irq7Pending || (p.irq.getLsbD 7 && !s.hid.irq7Prev)

/-- A request of level `l` is recognised over `mask` with the inputs `p` (60_exceptions.md R671, R672). -/
def requests (p : Pins) (mask : BitVec 3) (s : State) (l : Nat) : Bool :=
  if l = 7 then nmi p s else p.irq.getLsbD l && decide (mask.toNat < l)

/-- No interrupt is recognised. -/
def NoRequest (p : Pins) (mask : BitVec 3) (s : State) : Prop := ∀ l, 1 ≤ l → l ≤ 7 → requests p mask s l = false

/-- `l` is the greatest level recognised (60_exceptions.md R671). -/
def TopRequest (p : Pins) (mask : BitVec 3) (s : State) (l : BitVec 3) : Prop :=
  1 ≤ l.toNat ∧ requests p mask s l.toNat = true ∧ ∀ k, l.toNat < k → k ≤ 7 → requests p mask s k = false

/-- The vector number of an interrupt: the device's, the autovector, or the spurious one (60_exceptions.md R670). -/
def interruptVector (s : State) (l : BitVec 3) : Nat :=
  match s.platform.iack.getD (l.toNat - 1) .avec with
  | .vector n => n.toNat
  | .avec => 16 + l.toNat
  | .berr => 24

/-- The inputs of the next step are `p` and those of the steps after it `rest`; past the end of the script the inputs
are idle (log entry 5). -/
def NextInputs (p : Pins) (rest : List Pins) (s : State) : Prop :=
  s.script = p :: rest ∨ s.script = [] ∧ p = Pins.idle ∧ rest = []

/-- The next step of `s` begins an instruction: running, RESET not asserted, no bus error due, no breakpoint pending,
and interrupts inhibited or none recognised (60_exceptions.md R640). -/
structure BeginsInstruction (p : Pins) (s : State) : Prop where
  running : s.run = .running
  reset_off : p.reset = .off
  no_berr_due : s.berrDue = false
  no_bkpt : s.hid.bkptPending = false
  no_irq : s.hid.irqInhibit = true ∨ NoRequest p s.ccr.ip s

/-- The parts that an instruction can change and that the reset sequence leaves alone (70_reset_and_hazards.md R723). -/
def resetKeeps : List Loc :=
  [.a, .b, .e, .ix, .iy, .mv, .h, .ev, .n, .z, .v, .c, .hr, .ir, .am, .xmsk, .ymsk, .sl, .stopMask, .events]

/-- What the boundary and the fetch do to the hidden state and the inputs before the instruction itself: the inputs
`p` are on the pins, IRQ7 is sampled, the inhibit is used up, the bus-error countdown goes on, and the double-bus-fault
window is closed with its latch (60_exceptions.md R640, R650 to R652, R672); so too before each part of a suspended RMAC (log
entries 33, 34). -/
def State.begun (p : Pins) (rest : List Pins) (s : State) : State :=
  { s with
    pins := p
    script := rest
    stores := []
    hid := { s.hid with
      irq7Pending := nmi p s
      irq7Prev := p.irq.getLsbD 7
      irqInhibit := false
      berrWait := s.hid.berrWait - 1
      berrLatch := s.hid.berrLatch && !s.hid.faultWindow
      faultWindow := false } }

end Sys2Proof.Machine
end

