-- ==== Sys2Proof/Certificates/Slice0/Obligations.lean ====
section
/-!
DEFINITION. The statements for the provers. Each says which rule of spec/ it formalises; where a clause rests on a
choice of the model or of the spec, the docstring names the log entry.
-/

open Sys2Proof Sys2Proof.Machine

/-! ### Encoding -/

/-- Decoding the words of a well-formed instruction gives the instruction back, whatever words follow it in memory
(30_encoding.md R150 to R174). -/
def Obligations.DecodeEncode : Prop :=
  ∀ (i : Instr) (rest : List Word), i.wellFormed = true →
    decode ((encode i ++ rest).getD 0 0#16) ((encode i ++ rest).getD 1 0#16) ((encode i ++ rest).getD 2 0#16) = .ok i

/-- Every word has one meaning: an instruction that the decoder reads is well formed, and encoding it gives the words
back, but for bits [7:4] of the first word of JMP and JSR, which the decoder ignores (30_encoding.md R156, R158; log
entry 17). -/
def Obligations.EncodeDecode : Prop :=
  ∀ (w0 w1 w2 : Word) (i : Instr), decode w0 w1 w2 = .ok i →
    i.wellFormed = true ∧
      ((encode i).getD 0 0#16 = w0 ∨
        (∃ op, (i = .jmp op ∨ i = .jsr op) ∧ (encode i).getD 0 0#16 = w0 &&& 0xFF0F#16)) ∧
      (2 ≤ (encode i).length → (encode i).getD 1 0#16 = w1) ∧
      (3 ≤ (encode i).length → (encode i).getD 2 0#16 = w2)

/-- A few words decode to the instructions they stand for (the encodings of 40_data_movement.md R201, R203, R207, R208;
41_add_sub_compare.md R248; 44_program_control.md R413, R435, R437; 45_indexing_extension.md R479; 46_stacking_ccr.md
R550; 47_dsp.md R580; 48_stop_wait_misc.md R613). A sanity statement. -/
def Obligations.DecodedWords : Prop :=
  decode 0x7580#16 0x0000#16 0x0000#16 = .ok (.ldaa (.imm 0x80#8)) ∧
  decode 0x37B1#16 0x1234#16 0x0000#16 = .ok (.addd (.imm16 0x1234#16)) ∧
  decode 0x2785#16 0x0000#16 0x0000#16 = .ok (.ldd (.mem (.eoff .x))) ∧
  decode 0x174A#16 0x8000#16 0x0000#16 = .ok (.staa (.ind16 .x 0x8000#16)) ∧
  decode 0x37FF#16 0x2000#16 0x2002#16 = .ok (.movw (.extToExt 0x2000#16 0x2002#16)) ∧
  decode 0x3A81#16 0x1234#16 0x0010#16 = .ok (.brclr 0x81#8 (.ext 0x1234#16 0x0010#16)) ∧
  decode 0x7A03#16 0x1234#16 0x0000#16 = .ok (.jmp (.ext20 0x31234#20)) ∧
  decode 0xB0FA#16 0x0000#16 0x0000#16 = .ok (.bra 0xFA#8) ∧
  decode 0x373C#16 0xFFFE#16 0x0000#16 = .ok (.aix (.imm16 0xFFFE#16)) ∧
  decode 0x3403#16 0x0000#16 0x0000#16 = .ok (.pshm 0x03#8) ∧
  decode 0x7B22#16 0x0000#16 0x0000#16 = .ok (.mac 0x22#8) ∧
  decode 0x274C#16 0x0000#16 0x0000#16 = .ok .nop

/-! ### The machine -/

/-- What `State.reset` holds in the mode, the mask, the K register and the hidden state: S set, IP 7, SM clear, K zero,
running, no request pending, the double-bus-fault window open and interrupts inhibited for one instruction
(70_reset_and_hazards.md R720, R725). That the latches are cleared and the window and the inhibit set is the spec's own
decision D25 (log entry 31); that ZK, which the reset vector loads, is zero is the model's choice of an empty memory
(log entry 2). -/
def Obligations.ResetState : Prop :=
  State.reset.ccr.s = true ∧ State.reset.ccr.ip = 7#3 ∧ State.reset.ccr.sm = false ∧ State.reset.k = 0x0000#16 ∧
    State.reset.run = .running ∧ State.reset.hid.berrLatch = false ∧ State.reset.hid.bkptPending = false ∧
    State.reset.hid.irq7Pending = false ∧ State.reset.hid.faultWindow = true ∧
    State.reset.hid.irqInhibit = true

/-- The invariant holds at reset: bit 0 of PC zero (10_state.md R34), and both memories in canonical form, which is the
model's own choice (log entry 2). -/
def Obligations.InvAtReset : Prop := State.reset.Inv

/-- Every step that answers a next state keeps the invariant, on every platform and with every input: both memories
stay in canonical form (the model's own, log entry 2) and bit 0 of PC stays zero (10_state.md R34). -/
def Obligations.InvKept : Prop := ∀ s t : State, s.Inv → step s = .next t → t.Inv

/-- No step changes a parameter of the platform: each is fixed for the life of a run, but for BDM_ENABLED, which is an input
of each reset (00_scope.md R12; log entry 4). -/
def Obligations.PlatformKept : Prop := ∀ s t : State, step s = .next t → t.platform = s.platform

/-- A step runs the decoded instruction. Where the step begins an instruction and the words at PK:PC decode to a
well-formed `i`, the step is `exec i` on the state the boundary leaves (`State.begun`); when `exec` answers `t`, the step
answers `t`, unless the instruction changed words the pipeline may already hold, and then the step refuses by name
(00_scope.md R8, 30_encoding.md R150, 70_reset_and_hazards.md R742; log entry 15). That each step of a suspended RMAC uses
up the interrupt inhibit and the bus-error countdown as an instruction does is the model's own choice (log entries 33,
34). -/
def Obligations.StepRunsDecoded : Prop :=
  ∀ (s t : State) (p : Pins) (rest : List Pins) (i : Instr), s.Quiet → NextInputs p rest s → BeginsInstruction p s →
    decode (s.peekWord .program s.pc) (s.peekWord .program (s.pc + 2)) (s.peekWord .program (s.pc + 4)) = .ok i →
    i.wellFormed = true → exec i (s.begun p rest) = .next t →
    step s = if staleStore (s.begun p rest) i.length t then .refused .storeIntoPrefetch else .next t

/-- A word with no instruction takes the illegal instruction exception: vector 7, with the address of the word plus 8
stacked (60_exceptions.md R684, R682). That the frame is never refused as a store into the prefetched words is the model's
own choice (log entry 15). -/
def Obligations.IllegalOpcode : Prop :=
  ∀ (s : State) (p : Pins) (rest : List Pins) (r : DecodeReject), s.Inv → s.Quiet → NextInputs p rest s →
    BeginsInstruction p s →
    decode (s.peekWord .program s.pc) (s.peekWord .program (s.pc + 2)) (s.peekWord .program (s.pc + 4)) = .error r →
    ∃ t, step s = .next t ∧
      Entered 7 (s.pc + 8) s.ccr.ip [.inputs, .irq7Pending, .irq7Prev, .faultWindow, .berrLatch, .berrWait] s t ∧
      t.events = s.events

/-- RESET between steps, from any state: S, IP, SM and the K register as reset sets them, ZK, SK, PK, PC, SP and IZ from the
four words at $00000 of program space, PC with bit 0 zero, running, background mode enabled as the inputs of the step
say; every other register, flag and byte as it was, and nothing stacked. RESET inside a step: the same registers loaded
from the memory that the aborted step left, and every register, flag and byte that the whole of the aborted step would
leave as it was is as it was (70_reset_and_hazards.md R720 to R725). That the latches are cleared and the IRQ7 line is the
previous sample is the spec's own decision D25 (log entry 31); that the registers which reset does not name keep their
values is its decision D6; RESET inside a step is its decision D3 (log entry 20). -/
def Obligations.ResetSequence : Prop :=
  (∀ (s : State) (p : Pins) (rest : List Pins), s.Quiet → NextInputs p rest s → p.reset = .between →
    ∃ t, step s = .next t ∧
      t.ek = 0#4 ∧ t.xk = 0#4 ∧ t.yk = 0#4 ∧
      t.zk = (s.peekWord .program 0x00000#20).extractLsb' 8 4 ∧
      t.sk = (s.peekWord .program 0x00000#20).extractLsb' 4 4 ∧
      GoesTo ((s.peekWord .program 0x00000#20).toNat % 16 * 65536 + (s.peekWord .program 0x00002#20).toNat) t ∧
      t.sp = s.peekWord .program 0x00004#20 ∧ t.iz = s.peekWord .program 0x00006#20 ∧
      t.ccr = { s.ccr with s := true, ip := 7#3, sm := false } ∧ t.run = .running ∧
      t.hid = { s.hid with
        bdmEnabled := p.bdmEnabled, berrLatch := false, berrWait := 0, irqInhibit := true,
        irq7Pending := false, irq7Prev := p.irq.getLsbD 7, bkptPending := false, faultWindow := true } ∧
      Frame
        [.ek, .xk, .yk, .zk, .sk, .sp, .iz, .s, .ip, .sm, .run, .bdmEnabled, .berrLatch, .berrWait, .inhibit,
          .irq7Pending, .irq7Prev, .bkptPending, .faultWindow, .inputs] [] s t) ∧
  ∀ (s u : State) (p : Pins) (rest : List Pins), s.Inv → s.Quiet → NextInputs p rest s → p.reset = .inside →
    stepBody s.takeInputs = .next u →
    ∃ t, step s = .next t ∧
      t.ek = 0#4 ∧ t.xk = 0#4 ∧ t.yk = 0#4 ∧
      t.zk = (t.peekWord .program 0x00000#20).extractLsb' 8 4 ∧
      t.sk = (t.peekWord .program 0x00000#20).extractLsb' 4 4 ∧
      GoesTo ((t.peekWord .program 0x00000#20).toNat % 16 * 65536 + (t.peekWord .program 0x00002#20).toNat) t ∧
      t.sp = t.peekWord .program 0x00004#20 ∧ t.iz = t.peekWord .program 0x00006#20 ∧
      t.ccr.s = true ∧ t.ccr.ip = 7#3 ∧ t.ccr.sm = false ∧ t.run = .running ∧
      t.hid = { u.hid with
        bdmEnabled := u.pins.bdmEnabled, berrLatch := false, berrWait := 0, irqInhibit := true,
        irq7Pending := false, irq7Prev := u.pins.irq.getLsbD 7, bkptPending := false, faultWindow := true } ∧
      (∀ l ∈ resetKeeps, l.kept s u → l.kept s t) ∧
      ∀ sp x, u.peek sp x = s.peek sp x → t.peek sp x = s.peek sp x

/-- At a boundary where interrupts are examined, the greatest recognised level is taken: the address of the next
instruction plus 6 stacked, IP the level, the acknowledge cycle run, PC from the device's vector, the autovector or the
spurious one; level 7 takes the pending request (60_exceptions.md R640, R670, R671, R672, R681). -/
def Obligations.InterruptTaken : Prop :=
  ∀ (s : State) (p : Pins) (rest : List Pins) (l : BitVec 3), s.Inv → s.Quiet → NextInputs p rest s →
    p.reset = .off → s.run = .running → s.berrDue = false → s.hid.bkptPending = false → s.hid.irqInhibit = false →
    TopRequest p s.ccr.ip s l →
    ∃ t, step s = .next t ∧
      Entered (interruptVector s l) (s.pc + 6) l [.inputs, .irq7Pending, .irq7Prev, .events, .berrWait] s t ∧
      t.events = s.events ++ [.iack l] ∧ t.hid.irq7Pending = (nmi p s && decide (l ≠ 7#3))

/-- While RESET is not asserted, a processor stopped by LPSTOP or waiting in WAI stays so until an interrupt above the mask,
and then takes it with the address after the LPSTOP or WAI plus 6 stacked; the mask is the copy LPSTOP handed out, or IP
(48_stop_wait_misc.md R610, R611; 60_exceptions.md R671, R681). That a latched bus error or a pending breakpoint does not
end the idle state is the spec's own decision D19 (log entry 31). -/
def Obligations.IdleUntilInterrupt : Prop :=
  ∀ (s : State) (p : Pins) (rest : List Pins) (mask : BitVec 3), s.Inv → s.Quiet → NextInputs p rest s →
    p.reset = .off → (s.run = .stopped ∧ mask = s.hid.stopMask ∨ s.run = .waiting ∧ mask = s.ccr.ip) →
    ∃ t, step s = .next t ∧
      (NoRequest p mask s →
        t.pc = s.pc ∧ Frame [.inputs, .irq7Pending, .irq7Prev] [] s t) ∧
      ∀ l, TopRequest p mask s l →
        Entered (interruptVector s l) (s.pc + 6) l [.inputs, .irq7Pending, .irq7Prev, .events] s t ∧
          t.events = s.events ++ [.iack l]

/-- A bus error on an operand does not stop the instruction, and is latched with the countdown of BERR_DELAY: for every
accumulator and 16-bit register instruction with a memory source, of byte and word size; for the stores of one register,
whose bytes are each as stored or as before; and for COM, DEC, NEG, INC, ASL, ROL, ASR, ROR, LSR of a memory byte. What the
instruction writes is confined to what it writes without the error; after LDAA, N and Z are those of A and V is clear. The
data read is the model's free value: nothing is said of it (60_exceptions.md R650, R651; 20_memory.md R111; log entries 7
and 8). -/
def Obligations.BusErrorLatched : Prop :=
  ∀ (s : State) (m : MemOp), s.Inv → s.platform.bkpts = [] → s.platform.externalMasters = false →
    s.hid.faultWindow = false →
    (s.busError .data false [ea m s] = true →
      (∃ t, exec (.ldaa (.mem m)) s = .next t ∧ IsResult t.a t.ccr) ∧
      ∀ row ∈
        [(Instr.adda, [Loc.a, .h, .n, .z, .v, .c]), (Instr.addb, [.b, .h, .n, .z, .v, .c]),
          (Instr.adca, [.a, .h, .n, .z, .v, .c]), (Instr.adcb, [.b, .h, .n, .z, .v, .c]),
          (Instr.suba, [.a, .n, .z, .v, .c]), (Instr.subb, [.b, .n, .z, .v, .c]), (Instr.sbca, [.a, .n, .z, .v, .c]),
          (Instr.sbcb, [.b, .n, .z, .v, .c]), (Instr.cmpa, [.n, .z, .v, .c]), (Instr.cmpb, [.n, .z, .v, .c]),
          (Instr.anda, [.a, .n, .z, .v]), (Instr.andb, [.b, .n, .z, .v]), (Instr.oraa, [.a, .n, .z, .v]),
          (Instr.orab, [.b, .n, .z, .v]), (Instr.eora, [.a, .n, .z, .v]), (Instr.eorb, [.b, .n, .z, .v]),
          (Instr.bita, [.n, .z, .v]), (Instr.bitb, [.n, .z, .v]), (Instr.ldaa, [.a, .n, .z, .v]),
          (Instr.ldab, [.b, .n, .z, .v])],
        ∃ t, exec (row.1 (.mem m)) s = .next t ∧ GoesOn (row.1 (.mem m)) s t ∧ BerrLatched s t ∧
          Frame (row.2 ++ [.berrLatch, .berrWait]) [] s t) ∧
    (s.busError .data false (wordCycles (ea m s)) = true →
      ∀ row ∈
        [(Instr.addd, [Loc.a, .b, .n, .z, .v, .c]), (Instr.adde, [.e, .n, .z, .v, .c]),
          (Instr.adcd, [.a, .b, .n, .z, .v, .c]), (Instr.adce, [.e, .n, .z, .v, .c]),
          (Instr.subd, [.a, .b, .n, .z, .v, .c]), (Instr.sube, [.e, .n, .z, .v, .c]),
          (Instr.sbcd, [.a, .b, .n, .z, .v, .c]), (Instr.sbce, [.e, .n, .z, .v, .c]), (Instr.cpd, [.n, .z, .v, .c]),
          (Instr.cpe, [.n, .z, .v, .c]), (Instr.cpx, [.n, .z, .v, .c]), (Instr.cpy, [.n, .z, .v, .c]),
          (Instr.cpz, [.n, .z, .v, .c]), (Instr.cps, [.n, .z, .v, .c]), (Instr.andd, [.a, .b, .n, .z, .v]),
          (Instr.ande, [.e, .n, .z, .v]), (Instr.ord, [.a, .b, .n, .z, .v]), (Instr.ore, [.e, .n, .z, .v]),
          (Instr.eord, [.a, .b, .n, .z, .v]), (Instr.eore, [.e, .n, .z, .v]), (Instr.ldd, [.a, .b, .n, .z, .v]),
          (Instr.lde, [.e, .n, .z, .v]), (Instr.ldx, [.ix, .n, .z, .v]), (Instr.ldy, [.iy, .n, .z, .v]),
          (Instr.ldz, [.iz, .n, .z, .v]), (Instr.lds, [.sp, .n, .z, .v])],
        (row.1 (.mem m)).wellFormed = true →
        ∃ t, exec (row.1 (.mem m)) s = .next t ∧ GoesOn (row.1 (.mem m)) s t ∧ BerrLatched s t ∧
          Frame (row.2 ++ [.berrLatch, .berrWait]) [] s t) ∧
    (s.busError .data true [ea m s] = true → ∀ row ∈ [(Instr.staa, R8.a), (Instr.stab, R8.b)],
      ∃ t, exec (row.1 m) s = .next t ∧ GoesOn (row.1 m) s t ∧ BerrLatched s t ∧
        IsResult (getR8 row.2 s) t.ccr ∧
        (t.peek .data (ea m s) = getR8 row.2 s ∨ t.peek .data (ea m s) = s.peek .data (ea m s)) ∧
        Frame [.n, .z, .v, .berrLatch, .berrWait] [ea m s] s t) ∧
    (s.busError .data true (wordCycles (ea m s)) = true →
      ∀ row ∈ [(Instr.std, R16.d), (Instr.ste, R16.e), (Instr.stx, R16.ix), (Instr.sty, R16.iy), (Instr.stz, R16.iz),
          (Instr.sts, R16.sp)],
        (row.1 m).wellFormed = true →
        ∃ t, exec (row.1 m) s = .next t ∧ GoesOn (row.1 m) s t ∧ BerrLatched s t ∧
          IsResult (getR16 row.2 s) t.ccr ∧
          (t.peek .data (ea m s) = hi (getR16 row.2 s) ∨ t.peek .data (ea m s) = s.peek .data (ea m s)) ∧
          (t.peek .data (ea m s + 1) = lo (getR16 row.2 s) ∨
            t.peek .data (ea m s + 1) = s.peek .data (ea m s + 1)) ∧
          Frame [.n, .z, .v, .berrLatch, .berrWait] (wordAt (ea m s)) s t) ∧
    (s.busError .data false [ea m s] = true ∨ s.busError .data true [ea m s] = true →
      ∀ i ∈ [Instr.com m, .dec m, .neg m, .inc m, .asl m, .rol m, .asr m, .ror m, .lsr m],
        i.wellFormed = true →
        ∃ t, exec i s = .next t ∧ GoesOn i s t ∧ BerrLatched s t ∧
          Frame [.n, .z, .v, .c, .berrLatch, .berrWait] [ea m s] s t)

/-- A latched bus error that is due is taken before anything else: vector 5, the address of the next instruction plus 6
stacked, IP unchanged, and the double-bus-fault window opened, wherever the transfers of its processing do not end in BERR
themselves (60_exceptions.md R640, R650, R651, R681). That it comes before a pending breakpoint too is the spec's own
inference (log entry 29). -/
def Obligations.BusErrorTaken : Prop :=
  ∀ (s : State) (p : Pins) (rest : List Pins), s.Inv → s.EntryClear 5 → NextInputs p rest s → p.reset = .off →
    s.run = .running → s.berrDue = true →
    ∃ t, step s = .next t ∧
      Entered 5 (s.pc + 6) s.ccr.ip [.inputs, .irq7Pending, .irq7Prev, .faultWindow, .bkptPending] s t ∧
      t.hid.faultWindow = true ∧ t.hid.bkptPending = (s.hid.bkptPending || s.entryBreak 5)

/-- A double bus fault: background mode when enabled, else the processor halts. It comes of a bus error on a stack write
or the vector read of bus error processing; on the fetch of the first two words of the instruction before which the window
is open, that of a BERR handler or the first after RESET; and on any of the four reads of the reset vector. Halted, the
processor does nothing until RESET (60_exceptions.md R652, 70_reset_and_hazards.md R725). PK:PC is then the model's free
value; the bytes of the frame are free in the first two clauses, SK:SP in the first alone (log entry 10). The third
clause, where an error on any read of the reset vector loads none of the registers, so that SP, SK and IZ are as they
were, is the model's own choice (log entry 10): the spec says only that the registers not yet loaded keep their values.
That the window covers just these accesses is the spec's own decision D20 (log entry 31), and that a halted processor does
not sample IRQ7 is the model's (log entry 27). -/
def Obligations.DoubleBusFault : Prop :=
  (∀ (s : State) (p : Pins) (rest : List Pins), NextInputs p rest s → p.reset = .off → s.run = .running →
    s.berrDue = true → s.entryError 5 = true →
    ∃ t, step s = .next t ∧ t.run = afterDoubleFault s.hid.bdmEnabled ∧
      (s.platform.externalMasters = false →
        Frame [.sp, .sk, .run, .faultWindow, .bkptPending, .inputs, .irq7Pending, .irq7Prev] (frameBytes s) s t)) ∧
  (∀ (s : State) (p : Pins) (rest : List Pins), NextInputs p rest s → BeginsInstruction p s →
    s.hid.faultWindow = true →
    (s.busError .program false (wordCycles s.pc) = true ∨
      s.busError .program false (wordCycles (s.pc + 2)) = true) →
    ∃ t, step s = .next t ∧ t.run = afterDoubleFault s.hid.bdmEnabled ∧
      (s.platform.externalMasters = false →
        Frame [.run, .inhibit, .berrWait, .inputs, .irq7Pending, .irq7Prev]
          (if s.hid.berrLatch then wordAt (s.skSp + 4) ++ wordAt (s.skSp + 2) else []) s t)) ∧
  (∀ (s : State) (p : Pins) (rest : List Pins), NextInputs p rest s → p.reset = .between →
    (∃ a ∈ [0x00000#20, 0x00002#20, 0x00004#20, 0x00006#20], s.busError .program false (wordCycles a) = true) →
    ∃ t, step s = .next t ∧ t.run = afterDoubleFault p.bdmEnabled ∧
      (s.platform.externalMasters = false →
        Frame
          [.ek, .xk, .yk, .zk, .s, .ip, .sm, .run, .bdmEnabled, .berrLatch, .berrWait, .inhibit, .irq7Pending,
            .irq7Prev, .bkptPending, .faultWindow, .inputs] [] s t)) ∧
  ∀ (s : State) (p : Pins) (rest : List Pins), NextInputs p rest s → p.reset = .off → s.run = .halted →
    ∃ t, step s = .next t ∧ t.pc = s.pc ∧ Frame [.inputs] [] s t

/-- A pending breakpoint is acknowledged at the boundary: background mode, with nothing stacked, when it is enabled;
else vector 4 with the address of the next instruction plus 6 stacked, wherever the transfers of its processing do not end
in BERR, and pending again only where they are themselves tagged (60_exceptions.md R640, R660, R661, R691). That it comes
before a bus error latched on the same bus cycle, where BERR_DELAY makes that one not yet due, is the model's own choice
(log entry 36). -/
def Obligations.BreakpointTaken : Prop :=
  ∀ (s : State) (p : Pins) (rest : List Pins), NextInputs p rest s → p.reset = .off → s.run = .running →
    s.berrDue = false → s.hid.bkptPending = true →
    (s.hid.bdmEnabled = true →
      ∃ t, step s = .next t ∧ t.hid.bkptPending = false ∧ t.run = .background ∧ t.pc = s.pc ∧
        Frame [.run, .bkptPending, .berrWait, .inputs, .irq7Pending, .irq7Prev] [] s t) ∧
    (s.hid.bdmEnabled = false → s.Inv → s.EntryClear 4 →
      ∃ t, step s = .next t ∧ t.hid.bkptPending = s.entryBreak 4 ∧
        Entered 4 (s.pc + 6) s.ccr.ip [.bkptPending, .berrWait, .inputs, .irq7Pending, .irq7Prev, .events] s t ∧
        t.events = s.events ++ [.bkptAck])

/-- The background mode commands that need no memory: NOP and an unassigned word change nothing and answer command
complete or illegal; GO runs on at PK:PC; RPCSP returns PK:PC plus 6 and SK:SP, and WPCSP writes PK:PC as the value less 6
and SK:SP as sent; RREGM returns and WREGM writes the registers of the mask in ascending order of its bits, CCR[15:4], K,
IZ, IY, IX, E, D, with PK left alone; RDMAC returns and WRMAC writes the MAC registers; with no command nothing happens
(60_exceptions.md R691, R693 to R696, R699). One command in one step and the framing of its words are the model's (log
entry 19), and so is that IRQ7 is not sampled in background mode (log entry 27); the bits the spec leaves undefined in a
reply are free values (log entry 7). -/
def Obligations.BackgroundControl : Prop :=
  ∀ (s : State) (p : Pins) (rest : List Pins), NextInputs p rest s → p.reset = .off → s.run = .background →
    ∃ t, step s = .next t ∧
      (p.bdm = [] → t.pc = s.pc ∧ Frame [.inputs] [] s t) ∧
      (p.bdm = [0x1789#16] →
        t.pc = s.pc ∧ t.events = s.events ++ [.bdmReply [0x0FFFF#17]] ∧ Frame [.inputs, .events] [] s t) ∧
      (∀ w, p.bdm = [w] → w.toNat < 0x1780 ∨ 0x178B < w.toNat →
        t.pc = s.pc ∧ t.events = s.events ++ [.bdmReply [0x1FFFF#17]] ∧ Frame [.inputs, .events] [] s t) ∧
      (p.bdm = [0x1788#16] → t.pc = s.pc ∧ t.run = .running ∧ Frame [.inputs, .run] [] s t) ∧
      (p.bdm = [0x1782#16] →
        t.pc = s.pc ∧ Frame [.inputs, .events] [] s t ∧
          ∃ f g : BitVec 12, t.events = s.events ++
            [.bdmReply [0#1 ++ (f ++ bank (s.pc + 6)), 0#1 ++ offset (s.pc + 6), 0#1 ++ (g ++ s.sk), 0#1 ++ s.sp,
              0x0FFFF#17]]) ∧
      (∀ pk pc sk sp, p.bdm = [0x1783#16, pk, pc, sk, sp] →
        GoesTo (pk.toNat % 16 * 65536 + pc.toNat - 6) t ∧ t.sk.toNat = sk.toNat % 16 ∧ t.sp = sp ∧
          t.events = s.events ++ [.bdmReply [0x0FFFF#17]] ∧ Frame [.inputs, .events, .sp, .sk] [] s t) ∧
      (∀ mask, p.bdm = [0x1780#16, mask] →
        t.pc = s.pc ∧ Frame [.inputs, .events] [] s t ∧
          ∃ f : Nibble, t.events = s.events ++
            [.bdmReply ((((List.range 7).filter fun k => mask.getLsbD k).map fun k =>
              0#1 ++ [s.ccr.pack f, s.k, s.iz, s.iy, s.ix, s.e, s.d].getD k 0#16) ++ [0x0FFFF#17])]) ∧
      (∀ mask data, p.bdm = 0x1781#16 :: mask :: data → data.length = setBelow (lo mask) 7 →
        t.pc = s.pc ∧ t.events = s.events ++ [.bdmReply [0x0FFFF#17]] ∧
          let word (k : Nat) : Word := data.getD (setBelow (lo mask) k) 0#16
          (mask.getLsbD 0 = true → t.ccr.pack ((word 0).extractLsb' 0 4) = word 0) ∧
          (mask.getLsbD 1 = true → t.k = word 1) ∧ (mask.getLsbD 2 = true → t.iz = word 2) ∧
          (mask.getLsbD 3 = true → t.iy = word 3) ∧ (mask.getLsbD 4 = true → t.ix = word 4) ∧
          (mask.getLsbD 5 = true → t.e = word 5) ∧ (mask.getLsbD 6 = true → t.d = word 6) ∧
          Frame
            ([.inputs, .events] ++ (if mask.getLsbD 0 then ccrLocs ++ [.irq7Pending] else []) ++
              (if mask.getLsbD 1 then [.ek, .xk, .yk, .zk] else []) ++ (if mask.getLsbD 2 then [.iz] else []) ++
              (if mask.getLsbD 3 then [.iy] else []) ++ (if mask.getLsbD 4 then [.ix] else []) ++
              (if mask.getLsbD 5 then [.e] else []) ++ if mask.getLsbD 6 then [.a, .b] else []) [] s t) ∧
      (p.bdm = [0x178A#16] →
        t.pc = s.pc ∧ Frame [.inputs, .events] [] s t ∧
          ∃ f : BitVec 11, t.events = s.events ++
            [.bdmReply [0#1 ++ s.mac.hr, 0#1 ++ s.mac.ir, 0#1 ++ s.mac.am.extractLsb' 0 16,
              0#1 ++ s.mac.am.extractLsb' 16 16, 0#1 ++ (BitVec.ofBool s.mac.sl ++ f ++ s.mac.am.extractLsb' 32 4),
              0#1 ++ (s.mac.xmsk ++ s.mac.ymsk), 0x0FFFF#17]]) ∧
      ∀ masks slw high low ir hr, p.bdm = [0x178B#16, masks, slw, high, low, ir, hr] →
        t.pc = s.pc ∧ t.events = s.events ++ [.bdmReply [0x0FFFF#17]] ∧
          t.mac = { hr := hr, ir := ir, am := slw.extractLsb' 0 4 ++ high ++ low, xmsk := hi masks, ymsk := lo masks,
                    sl := slw.getLsbD 15 } ∧
          Frame [.inputs, .events, .hr, .ir, .am, .xmsk, .ymsk, .sl] [] s t

/-- The background mode memory commands. RDMEM returns and WDMEM stores the byte, word or long word in data space at the
bank in bits [3:0] of the first extension word and the address in the second, misaligned or not, the size in bits [15:14]
of the first; a byte is returned with $FF above it. RPMEM returns and WPMEM stores the word of program space at that address
with bit 0 zero (60_exceptions.md R697, R698). That bits [13:4] of the first word are ignored and one command is one step is
the model's choice (log entry 19), and so is that IRQ7 is not sampled in background mode (log entry 27). -/
def Obligations.BackgroundMemory : Prop :=
  ∀ (s : State) (p : Pins) (rest : List Pins) (w0 w1 : Word), s.Inv → s.Quiet → NextInputs p rest s →
    p.reset = .off → s.run = .background →
    let a : Addr := w0.extractLsb' 0 4 ++ w1
    let e : Addr := a &&& 0xFFFFE#20
    ∃ t, step s = .next t ∧
      (p.bdm = [0x1784#16, w0, w1] → t.pc = s.pc ∧ Frame [.inputs, .events] [] s t ∧
        (w0.getLsbD 15 = false → w0.getLsbD 14 = false →
          t.events = s.events ++ [.bdmReply [0#1 ++ (0xFF#8 ++ s.peek .data a)]]) ∧
        (w0.getLsbD 15 = false → w0.getLsbD 14 = true →
          t.events = s.events ++ [.bdmReply [0#1 ++ s.peekWord .data a]]) ∧
        (w0.getLsbD 15 = true →
          t.events = s.events ++ [.bdmReply [0#1 ++ s.peekWord .data a, 0#1 ++ s.peekWord .data (a + 2)]])) ∧
      (∀ v, p.bdm = [0x1785#16, w0, w1, v] → w0.getLsbD 15 = false →
        t.pc = s.pc ∧ t.events = s.events ++ [.bdmReply [0x0FFFF#17]] ∧
          (w0.getLsbD 14 = false → t.peek .data a = lo v ∧ Frame [.inputs, .events] [a] s t) ∧
          (w0.getLsbD 14 = true → t.peekWord .data a = v ∧ Frame [.inputs, .events] (wordAt a) s t)) ∧
      (∀ high low, p.bdm = [0x1785#16, w0, w1, high, low] → w0.getLsbD 15 = true →
        t.pc = s.pc ∧ t.events = s.events ++ [.bdmReply [0x0FFFF#17]] ∧ t.peekWord .data a = high ∧
          t.peekWord .data (a + 2) = low ∧ Frame [.inputs, .events] (wordAt a ++ wordAt (a + 2)) s t) ∧
      (p.bdm = [0x1786#16, w0, w1] →
        t.pc = s.pc ∧ t.events = s.events ++ [.bdmReply [0#1 ++ s.peekWord .program e]] ∧
          Frame [.inputs, .events] [] s t) ∧
      ∀ v, p.bdm = [0x1787#16, w0, w1, v] →
        t.pc = s.pc ∧ t.events = s.events ++ [.bdmReply [0x0FFFF#17]] ∧ t.peekWord .program e = v ∧
          (∀ x, x ∉ wordAt e → t.peek .program x = s.peek .program x) ∧
          (s.platform.splitSpaces = true → ∀ x, t.peek .data x = s.peek .data x) ∧
          ∀ l, l ∉ [Loc.inputs, .events] → l.kept s t

/-! ### Shared rules -/

/-- The effective addresses: 20-bit sums of XK : IX, YK : IY or ZK : IZ with a zero-extended byte, a sign-extended word
or the sign-extended E; EK : hhll; and for JMP and JSR the 20-bit target or the index register plus the 20-bit offset
(30_encoding.md R163 to R168). That the sums wrap modulo 2^20, across banks, is the spec's own decision D5 (log entry 16). -/
def Obligations.EffectiveAddress : Prop :=
  ∀ (s : State) (r : Idx),
    (∀ ff, ((ea (.ind8 r ff) s).toNat : Int) =
      ((s.ext r).toNat * 65536 + (s.index r).toNat + ff.toNat : Int) % 2 ^ 20) ∧
    (∀ gggg, ((ea (.ind16 r gggg) s).toNat : Int) =
      ((s.ext r).toNat * 65536 + (s.index r).toNat + gggg.toInt : Int) % 2 ^ 20) ∧
    (∀ hhll, (ea (.ext hhll) s).toNat = s.ek.toNat * 65536 + hhll.toNat) ∧
    ((ea (.eoff r) s).toNat : Int) = ((s.ext r).toNat * 65536 + (s.index r).toNat + s.e.toInt : Int) % 2 ^ 20 ∧
    (∀ target, jmpTarget (.ext20 target) s = target) ∧
    ∀ off, (jmpTarget (.ind20 r off) s).toNat = ((s.index r).toNat + off.toNat) % 2 ^ 20

/-- The arithmetic flags are the Boolean equations of Table 6-35 with the complement bars restored, for bytes and words
and every carry in; H is the carry out of bit 3 of the 8-bit additions, and nothing else writes it
(41_add_sub_compare.md R240). -/
def Obligations.FlagEquations : Prop :=
  (∀ (x m : Byte) (cin : Bool) (c : Ccr),
    let r := (add8 x m cin c).1
    let f := (add8 x m cin c).2
    r.toNat = (x.toNat + m.toNat + cin.toNat) % 2 ^ 8 ∧ f.n = r.getLsbD 7 ∧ f.z = decide (r = 0#8) ∧
      f.h = decide (16 ≤ x.toNat % 16 + m.toNat % 16 + cin.toNat) ∧
      f.h = ((x.getLsbD 3 && m.getLsbD 3) || (m.getLsbD 3 && !r.getLsbD 3) || (!r.getLsbD 3 && x.getLsbD 3)) ∧
      f.v = ((x.getLsbD 7 && m.getLsbD 7 && !r.getLsbD 7) || (!x.getLsbD 7 && !m.getLsbD 7 && r.getLsbD 7)) ∧
      f.c = decide (2 ^ 8 ≤ x.toNat + m.toNat + cin.toNat) ∧
      f.c = ((x.getLsbD 7 && m.getLsbD 7) || (m.getLsbD 7 && !r.getLsbD 7) || (!r.getLsbD 7 && x.getLsbD 7))) ∧
  (∀ (x m : Byte) (cin : Bool) (c : Ccr),
    let r := (subW x m cin c).1
    let f := (subW x m cin c).2
    (r.toNat : Int) = ((x.toNat : Int) - m.toNat - cin.toNat) % 2 ^ 8 ∧ f.h = c.h ∧ f.n = r.getLsbD 7 ∧
      f.z = decide (r = 0#8) ∧
      f.v = ((x.getLsbD 7 && !m.getLsbD 7 && !r.getLsbD 7) || (!x.getLsbD 7 && m.getLsbD 7 && r.getLsbD 7)) ∧
      f.c = decide (x.toNat < m.toNat + cin.toNat) ∧
      f.c = ((!x.getLsbD 7 && m.getLsbD 7) || (m.getLsbD 7 && r.getLsbD 7) || (r.getLsbD 7 && !x.getLsbD 7))) ∧
  (∀ (x m : Word) (cin : Bool) (c : Ccr),
    let r := (addW x m cin c).1
    let f := (addW x m cin c).2
    r.toNat = (x.toNat + m.toNat + cin.toNat) % 2 ^ 16 ∧ f.h = c.h ∧ f.n = r.getLsbD 15 ∧ f.z = decide (r = 0#16) ∧
      f.v = ((x.getLsbD 15 && m.getLsbD 15 && !r.getLsbD 15) || (!x.getLsbD 15 && !m.getLsbD 15 && r.getLsbD 15)) ∧
      f.c = decide (2 ^ 16 ≤ x.toNat + m.toNat + cin.toNat) ∧
      f.c = ((x.getLsbD 15 && m.getLsbD 15) || (m.getLsbD 15 && !r.getLsbD 15) || (!r.getLsbD 15 && x.getLsbD 15))) ∧
  ∀ (x m : Word) (cin : Bool) (c : Ccr),
    let r := (subW x m cin c).1
    let f := (subW x m cin c).2
    (r.toNat : Int) = ((x.toNat : Int) - m.toNat - cin.toNat) % 2 ^ 16 ∧ f.h = c.h ∧ f.n = r.getLsbD 15 ∧
      f.z = decide (r = 0#16) ∧
      f.v = ((x.getLsbD 15 && !m.getLsbD 15 && !r.getLsbD 15) || (!x.getLsbD 15 && m.getLsbD 15 && r.getLsbD 15)) ∧
      f.c = decide (x.toNat < m.toNat + cin.toNat) ∧
      f.c = ((!x.getLsbD 15 && m.getLsbD 15) || (m.getLsbD 15 && r.getLsbD 15) || (r.getLsbD 15 && !x.getLsbD 15))

/-- The layout of the CCR: S, MV, H, EV, N, Z, V, C in bits 15 to 8, IP in bits 7 to 5, SM in bit 4, PK in bits 3 to 0;
the image holds nothing else (10_state.md R37). -/
def Obligations.CcrLayout : Prop :=
  ∀ (c : Ccr) (pk : Nibble),
    (c.pack pk).toNat =
      c.s.toNat * 2 ^ 15 + c.mv.toNat * 2 ^ 14 + c.h.toNat * 2 ^ 13 + c.ev.toNat * 2 ^ 12 + c.n.toNat * 2 ^ 11 +
        c.z.toNat * 2 ^ 10 + c.v.toNat * 2 ^ 9 + c.c.toNat * 2 ^ 8 + c.ip.toNat * 2 ^ 5 + c.sm.toNat * 2 ^ 4 +
        pk.toNat ∧
    Ccr.unpack (c.pack pk) = c ∧ ∀ w : Word, (Ccr.unpack w).pack (w.extractLsb' 0 4) = w

/-! ### Arithmetic, logic and loads on a register and a source -/

/-- ADDA, ADDB, ADCA, ADCB: the sum of the accumulator, the source and, for the ADC pair, C goes to the accumulator; H
is the carry out of bit 3; N, Z, V, C of the sum (41_add_sub_compare.md R240, R242, R243, R246, R247). -/
def Obligations.ByteAddition : Prop :=
  ∀ row ∈ [(Instr.adda, R8.a, false), (Instr.addb, R8.b, false), (Instr.adca, R8.a, true), (Instr.adcb, R8.b, true)],
    ∀ (src : Src8) (s : State), s.Quiet →
      ∃ t, exec (row.1 src) s = .next t ∧ GoesOn (row.1 src) s t ∧
        IsSum (getR8 row.2.1 s) (value8 src s) (row.2.2 && s.ccr.c) (getR8 row.2.1 t) t.ccr ∧
        t.ccr.h = decide (16 ≤
          (getR8 row.2.1 s).toNat % 16 + (value8 src s).toNat % 16 + (row.2.2 && s.ccr.c).toNat) ∧
        Frame (row.2.1.locs ++ [.h, .n, .z, .v, .c]) [] s t

/-- SUBA, SUBB, SBCA, SBCB: the difference of the accumulator, the source and, for the SBC pair, C goes to the
accumulator, with N, Z, V and the borrow in C; CMPA and CMPB set those flags and leave the accumulator
(41_add_sub_compare.md R240, R252, R253, R257, R258, R264, R265). -/
def Obligations.ByteSubtraction : Prop :=
  (∀ row ∈
      [(Instr.suba, R8.a, false), (Instr.subb, R8.b, false), (Instr.sbca, R8.a, true), (Instr.sbcb, R8.b, true)],
    ∀ (src : Src8) (s : State), s.Quiet →
      ∃ t, exec (row.1 src) s = .next t ∧ GoesOn (row.1 src) s t ∧
        IsDifference (getR8 row.2.1 s) (value8 src s) (row.2.2 && s.ccr.c) (getR8 row.2.1 t) t.ccr ∧
        Frame (row.2.1.locs ++ [.n, .z, .v, .c]) [] s t) ∧
  ∀ row ∈ [(Instr.cmpa, R8.a), (Instr.cmpb, R8.b)], ∀ (src : Src8) (s : State), s.Quiet →
    ∃ t r, exec (row.1 src) s = .next t ∧ GoesOn (row.1 src) s t ∧
      IsDifference (getR8 row.2 s) (value8 src s) false r t.ccr ∧ Frame [.n, .z, .v, .c] [] s t

/-- ANDA, ANDB, ORAA, ORAB, EORA, EORB: the bitwise result goes to the accumulator, with N and Z of it, V clear and C as
it was; BITA and BITB set those flags of the AND and leave the accumulator; LDAA and LDAB load the source with N and Z
of it and V clear (43_logic_bit_shift.md R340, R341, R342, R345, R346, R349, R350, R353, R354; 40_data_movement.md
R201, R202). -/
def Obligations.ByteLogic : Prop :=
  (∀ row ∈
      [(Instr.anda, R8.a, Bitwise.and), (Instr.andb, R8.b, Bitwise.and), (Instr.oraa, R8.a, Bitwise.or),
        (Instr.orab, R8.b, Bitwise.or), (Instr.eora, R8.a, Bitwise.eor), (Instr.eorb, R8.b, Bitwise.eor)],
    ∀ (src : Src8) (s : State), s.Quiet →
      ∃ t, exec (row.1 src) s = .next t ∧ GoesOn (row.1 src) s t ∧
        IsBitwise row.2.2 (getR8 row.2.1 s) (value8 src s) (getR8 row.2.1 t) ∧ IsResult (getR8 row.2.1 t) t.ccr ∧
        Frame (row.2.1.locs ++ [.n, .z, .v]) [] s t) ∧
  (∀ row ∈ [(Instr.bita, R8.a), (Instr.bitb, R8.b)], ∀ (src : Src8) (s : State), s.Quiet →
    ∃ t r, exec (row.1 src) s = .next t ∧ GoesOn (row.1 src) s t ∧
      IsBitwise .and (getR8 row.2 s) (value8 src s) r ∧ IsResult r t.ccr ∧ Frame [.n, .z, .v] [] s t) ∧
  ∀ row ∈ [(Instr.ldaa, R8.a), (Instr.ldab, R8.b)], ∀ (src : Src8) (s : State), s.Quiet →
    ∃ t, exec (row.1 src) s = .next t ∧ GoesOn (row.1 src) s t ∧
      getR8 row.2 t = value8 src s ∧ IsResult (value8 src s) t.ccr ∧ Frame (row.2.locs ++ [.n, .z, .v]) [] s t

/-- ADDD, ADDE, ADCD, ADCE: the sum of the accumulator, the source and, for the ADC pair, C goes to the accumulator,
with N, Z, V, C of it; H is left alone (41_add_sub_compare.md R240, R244, R245, R248, R249). -/
def Obligations.WordAddition : Prop :=
  ∀ row ∈ [(Instr.addd, R16.d, false), (Instr.adde, R16.e, false), (Instr.adcd, R16.d, true),
      (Instr.adce, R16.e, true)],
    ∀ (src : Src16) (s : State), (row.1 src).wellFormed = true → s.Quiet →
      ∃ t, exec (row.1 src) s = .next t ∧ GoesOn (row.1 src) s t ∧
        IsSum (getR16 row.2.1 s) (value16 src s) (row.2.2 && s.ccr.c) (getR16 row.2.1 t) t.ccr ∧
        Frame (row.2.1.locs ++ [.n, .z, .v, .c]) [] s t

/-- SUBD, SUBE, SBCD, SBCE: the difference goes to the accumulator, with N, Z, V and the borrow in C; CPD, CPE, CPX, CPY,
CPZ, CPS set those flags of register less source and leave the register, the compares of an index register and of SP
taking 16 bits without the extension field (41_add_sub_compare.md R240, R254, R255, R259, R260, R266, R267;
45_indexing_extension.md R482 to R484; 46_stacking_ccr.md R541). -/
def Obligations.WordSubtraction : Prop :=
  (∀ row ∈ [(Instr.subd, R16.d, false), (Instr.sube, R16.e, false), (Instr.sbcd, R16.d, true),
      (Instr.sbce, R16.e, true)],
    ∀ (src : Src16) (s : State), (row.1 src).wellFormed = true → s.Quiet →
      ∃ t, exec (row.1 src) s = .next t ∧ GoesOn (row.1 src) s t ∧
        IsDifference (getR16 row.2.1 s) (value16 src s) (row.2.2 && s.ccr.c) (getR16 row.2.1 t) t.ccr ∧
        Frame (row.2.1.locs ++ [.n, .z, .v, .c]) [] s t) ∧
  ∀ row ∈ [(Instr.cpd, R16.d), (Instr.cpe, R16.e), (Instr.cpx, R16.ix), (Instr.cpy, R16.iy), (Instr.cpz, R16.iz),
      (Instr.cps, R16.sp)],
    ∀ (src : Src16) (s : State), (row.1 src).wellFormed = true → s.Quiet →
      ∃ t r, exec (row.1 src) s = .next t ∧ GoesOn (row.1 src) s t ∧
        IsDifference (getR16 row.2 s) (value16 src s) false r t.ccr ∧ Frame [.n, .z, .v, .c] [] s t

/-- ANDD, ANDE, ORD, ORE, EORD, EORE: the bitwise result goes to the accumulator, with N and Z of it, V clear and C as it
was; LDD, LDE, LDX, LDY, LDZ, LDS load the source with N and Z of it and V clear, an index register or SP without its
extension field (43_logic_bit_shift.md R340, R343, R344, R347, R348, R351, R352; 40_data_movement.md R203, R204;
45_indexing_extension.md R485 to R487; 46_stacking_ccr.md R542). -/
def Obligations.WordLogic : Prop :=
  (∀ row ∈
      [(Instr.andd, R16.d, Bitwise.and), (Instr.ande, R16.e, Bitwise.and), (Instr.ord, R16.d, Bitwise.or),
        (Instr.ore, R16.e, Bitwise.or), (Instr.eord, R16.d, Bitwise.eor), (Instr.eore, R16.e, Bitwise.eor)],
    ∀ (src : Src16) (s : State), (row.1 src).wellFormed = true → s.Quiet →
      ∃ t, exec (row.1 src) s = .next t ∧ GoesOn (row.1 src) s t ∧
        IsBitwise row.2.2 (getR16 row.2.1 s) (value16 src s) (getR16 row.2.1 t) ∧ IsResult (getR16 row.2.1 t) t.ccr ∧
        Frame (row.2.1.locs ++ [.n, .z, .v]) [] s t) ∧
  ∀ row ∈ [(Instr.ldd, R16.d), (Instr.lde, R16.e), (Instr.ldx, R16.ix), (Instr.ldy, R16.iy), (Instr.ldz, R16.iz),
      (Instr.lds, R16.sp)],
    ∀ (src : Src16) (s : State), (row.1 src).wellFormed = true → s.Quiet →
      ∃ t, exec (row.1 src) s = .next t ∧ GoesOn (row.1 src) s t ∧
        getR16 row.2 t = value16 src s ∧ IsResult (value16 src s) t.ccr ∧ Frame (row.2.locs ++ [.n, .z, .v]) [] s t

/-! ### Registers alone -/

/-- ABA, SBA, CBA on A and B, and ADE, SDE on E and D: the sum or difference goes to A or E, with the flags of it, H for
ABA only; CBA writes the flags alone. TAB, TBA, TDE, TED copy a register with N and Z of the copy and V clear
(41_add_sub_compare.md R241, R250, R251, R256, R263; 40_data_movement.md R213 to R216). -/
def Obligations.RegisterArithmetic : Prop :=
  ∀ s : State,
    (∃ t, exec .aba s = .next t ∧ GoesOn .aba s t ∧ IsSum s.a s.b false t.a t.ccr ∧
      t.ccr.h = decide (16 ≤ s.a.toNat % 16 + s.b.toNat % 16) ∧ Frame [.a, .h, .n, .z, .v, .c] [] s t) ∧
    (∃ t, exec .sba s = .next t ∧ GoesOn .sba s t ∧ IsDifference s.a s.b false t.a t.ccr ∧
      Frame [.a, .n, .z, .v, .c] [] s t) ∧
    (∃ t r, exec .cba s = .next t ∧ GoesOn .cba s t ∧ IsDifference s.a s.b false r t.ccr ∧
      Frame [.n, .z, .v, .c] [] s t) ∧
    (∃ t, exec .ade s = .next t ∧ GoesOn .ade s t ∧ IsSum s.e s.d false t.e t.ccr ∧
      Frame [.e, .n, .z, .v, .c] [] s t) ∧
    (∃ t, exec .sde s = .next t ∧ GoesOn .sde s t ∧ IsDifference s.e s.d false t.e t.ccr ∧
      Frame [.e, .n, .z, .v, .c] [] s t) ∧
    (∃ t, exec .tab s = .next t ∧ GoesOn .tab s t ∧ t.b = s.a ∧ IsResult s.a t.ccr ∧
      Frame [.b, .n, .z, .v] [] s t) ∧
    (∃ t, exec .tba s = .next t ∧ GoesOn .tba s t ∧ t.a = s.b ∧ IsResult s.b t.ccr ∧
      Frame [.a, .n, .z, .v] [] s t) ∧
    (∃ t, exec .tde s = .next t ∧ GoesOn .tde s t ∧ t.e = s.d ∧ IsResult s.d t.ccr ∧
      Frame [.e, .n, .z, .v] [] s t) ∧
    ∃ t, exec .ted s = .next t ∧ GoesOn .ted s t ∧ t.d = s.e ∧ IsResult s.e t.ccr ∧
      Frame [.a, .b, .n, .z, .v] [] s t

/-- The exchanges: one word each, the two registers change places, the index registers without their extension fields, and no
flag changes (40_data_movement.md R217, R218; 45_indexing_extension.md R503 to R508). -/
def Obligations.Exchanges : Prop :=
  ∀ s : State,
    (encode .xgab = [0x371A#16] ∧
      ∃ t, exec .xgab s = .next t ∧ GoesOn .xgab s t ∧ t.a = s.b ∧ t.b = s.a ∧ Frame [.a, .b] [] s t) ∧
    ∀ row ∈ [(Instr.xgde, R16.d, R16.e, 0x277A#16), (Instr.xgdx, R16.d, R16.ix, 0x37CC#16),
        (Instr.xgdy, R16.d, R16.iy, 0x37DC#16), (Instr.xgdz, R16.d, R16.iz, 0x37EC#16),
        (Instr.xgex, R16.e, R16.ix, 0x374C#16), (Instr.xgey, R16.e, R16.iy, 0x375C#16),
        (Instr.xgez, R16.e, R16.iz, 0x376C#16)],
      encode row.1 = [row.2.2.2] ∧
        ∃ t, exec row.1 s = .next t ∧ GoesOn row.1 s t ∧
          getR16 row.2.1 t = getR16 row.2.2.1 s ∧ getR16 row.2.2.1 t = getR16 row.2.1 s ∧
          Frame (row.2.1.locs ++ row.2.2.1.locs) [] s t

/-- The operations on one accumulator: complement, decrement, negate, increment, clear, test, the shifts and the rotates,
each with its result and its N, Z, V, C (41_add_sub_compare.md R269 to R272; 42_mul_div_inc_clr.md R300, R301, R304,
R305, R308 to R311, R314 to R317, R320 to R323; 43_logic_bit_shift.md R359, R361 to R388). -/
def Obligations.AccumulatorUnary : Prop :=
  (∀ row ∈
      [(Instr.coma, R8.a, Unary.com), (Instr.comb, R8.b, Unary.com), (Instr.deca, R8.a, Unary.dec),
        (Instr.decb, R8.b, Unary.dec), (Instr.nega, R8.a, Unary.neg), (Instr.negb, R8.b, Unary.neg),
        (Instr.inca, R8.a, Unary.inc), (Instr.incb, R8.b, Unary.inc), (Instr.asla, R8.a, Unary.asl),
        (Instr.aslb, R8.b, Unary.asl), (Instr.clra, R8.a, Unary.clr), (Instr.clrb, R8.b, Unary.clr),
        (Instr.tsta, R8.a, Unary.tst), (Instr.tstb, R8.b, Unary.tst), (Instr.rola, R8.a, Unary.rol),
        (Instr.rolb, R8.b, Unary.rol), (Instr.asra, R8.a, Unary.asr), (Instr.asrb, R8.b, Unary.asr),
        (Instr.rora, R8.a, Unary.ror), (Instr.rorb, R8.b, Unary.ror), (Instr.lsra, R8.a, Unary.lsr),
        (Instr.lsrb, R8.b, Unary.lsr)],
    ∀ s : State, ∃ t, exec row.1 s = .next t ∧ GoesOn row.1 s t ∧
      IsUnary row.2.2 (getR8 row.2.1 s) s.ccr (getR8 row.2.1 t) t.ccr ∧
      Frame (row.2.1.locs ++ [.n, .z, .v, .c]) [] s t) ∧
  ∀ row ∈
      [(Instr.comd, R16.d, Unary.com), (Instr.come, R16.e, Unary.com), (Instr.negd, R16.d, Unary.neg),
        (Instr.nege, R16.e, Unary.neg), (Instr.asld, R16.d, Unary.asl), (Instr.asle, R16.e, Unary.asl),
        (Instr.clrd, R16.d, Unary.clr), (Instr.clre, R16.e, Unary.clr), (Instr.tstd, R16.d, Unary.tst),
        (Instr.tste, R16.e, Unary.tst), (Instr.rold, R16.d, Unary.rol), (Instr.role, R16.e, Unary.rol),
        (Instr.asrd, R16.d, Unary.asr), (Instr.asre, R16.e, Unary.asr), (Instr.rord, R16.d, Unary.ror),
        (Instr.rore, R16.e, Unary.ror), (Instr.lsrd, R16.d, Unary.lsr), (Instr.lsre, R16.e, Unary.lsr)],
    ∀ s : State, ∃ t, exec row.1 s = .next t ∧ GoesOn row.1 s t ∧
      IsUnary row.2.2 (getR16 row.2.1 s) s.ccr (getR16 row.2.1 t) t.ccr ∧
      Frame (row.2.1.locs ++ [.n, .z, .v, .c]) [] s t

/-! ### Memory operands -/

/-- COM, DEC, NEG, INC, ASL, CLR, ROL, ASR, ROR, LSR on a memory byte: the byte at the effective address becomes the
result, with its N, Z, V, C, and no other byte changes; TST sets the flags and stores nothing (42_mul_div_inc_clr.md
R299, R303, R307, R313, R319; 43_logic_bit_shift.md R359, R360, R366, R372, R378, R384; 41_add_sub_compare.md R268). -/
def Obligations.MemoryByteUnary : Prop :=
  (∀ row ∈
      [(Instr.com, Unary.com), (Instr.dec, Unary.dec), (Instr.neg, Unary.neg), (Instr.inc, Unary.inc),
        (Instr.asl, Unary.asl), (Instr.clr, Unary.clr), (Instr.rol, Unary.rol), (Instr.asr, Unary.asr),
        (Instr.ror, Unary.ror), (Instr.lsr, Unary.lsr)],
    ∀ (m : MemOp) (s : State), (row.1 m).wellFormed = true → s.Inv → s.Quiet →
      ∃ t, exec (row.1 m) s = .next t ∧ GoesOn (row.1 m) s t ∧
        IsUnary row.2 (s.peek .data (ea m s)) s.ccr (t.peek .data (ea m s)) t.ccr ∧
        Frame [.n, .z, .v, .c] [ea m s] s t) ∧
  ∀ (m : MemOp) (s : State), (Instr.tst m).wellFormed = true → s.Quiet →
    ∃ t, exec (.tst m) s = .next t ∧ GoesOn (.tst m) s t ∧
      IsUnary .tst (s.peek .data (ea m s)) s.ccr (s.peek .data (ea m s)) t.ccr ∧ Frame [.n, .z, .v, .c] [] s t

/-- COMW, DECW, NEGW, INCW, ASLW, CLRW, ROLW, ASRW, RORW, LSRW on a memory word, at an even or an odd address: the word at
the effective address becomes the result, with its N, Z, V, C, and no other byte changes; TSTW sets the flags and stores
nothing (42_mul_div_inc_clr.md R302, R306, R312, R318, R324; 43_logic_bit_shift.md R359, R365, R371, R377, R383, R389;
41_add_sub_compare.md R273). -/
def Obligations.MemoryWordUnary : Prop :=
  (∀ row ∈
      [(Instr.comw, Unary.com), (Instr.decw, Unary.dec), (Instr.negw, Unary.neg), (Instr.incw, Unary.inc),
        (Instr.aslw, Unary.asl), (Instr.clrw, Unary.clr), (Instr.rolw, Unary.rol), (Instr.asrw, Unary.asr),
        (Instr.rorw, Unary.ror), (Instr.lsrw, Unary.lsr)],
    ∀ (m : MemOp) (s : State), (row.1 m).wellFormed = true → s.Inv → s.Quiet →
      ∃ t, exec (row.1 m) s = .next t ∧ GoesOn (row.1 m) s t ∧
        IsUnary row.2 (s.peekWord .data (ea m s)) s.ccr (t.peekWord .data (ea m s)) t.ccr ∧
        Frame [.n, .z, .v, .c] (wordAt (ea m s)) s t) ∧
  ∀ (m : MemOp) (s : State), (Instr.tstw m).wellFormed = true → s.Quiet →
    ∃ t, exec (.tstw m) s = .next t ∧ GoesOn (.tstw m) s t ∧
      IsUnary .tst (s.peekWord .data (ea m s)) s.ccr (s.peekWord .data (ea m s)) t.ccr ∧
      Frame [.n, .z, .v, .c] [] s t

/-- BCLR, BSET, BCLRW, BSETW: each bit of the memory byte or word whose mask bit is set is cleared or set, the others
stay; N and Z of the result, V clear, C as it was (43_logic_bit_shift.md R355 to R358). -/
def Obligations.MemoryBits : Prop :=
  (∀ (mm : Byte) (m : MemOp) (s : State), m.noOffset = true → s.Inv → s.Quiet →
    (∃ t, exec (.bclr mm m) s = .next t ∧ GoesOn (.bclr mm m) s t ∧
      (∀ k, k < 8 → (t.peek .data (ea m s)).getLsbD k = ((s.peek .data (ea m s)).getLsbD k && !mm.getLsbD k)) ∧
      IsResult (t.peek .data (ea m s)) t.ccr ∧ Frame [.n, .z, .v] [ea m s] s t) ∧
    ∃ t, exec (.bset mm m) s = .next t ∧ GoesOn (.bset mm m) s t ∧
      (∀ k, k < 8 → (t.peek .data (ea m s)).getLsbD k = ((s.peek .data (ea m s)).getLsbD k || mm.getLsbD k)) ∧
      IsResult (t.peek .data (ea m s)) t.ccr ∧ Frame [.n, .z, .v] [ea m s] s t) ∧
  ∀ (mmmm : Word) (m : MemOp) (s : State), m.wordForm = true → s.Inv → s.Quiet →
    (∃ t, exec (.bclrw mmmm m) s = .next t ∧ GoesOn (.bclrw mmmm m) s t ∧
      (∀ k, k < 16 →
        (t.peekWord .data (ea m s)).getLsbD k = ((s.peekWord .data (ea m s)).getLsbD k && !mmmm.getLsbD k)) ∧
      IsResult (t.peekWord .data (ea m s)) t.ccr ∧ Frame [.n, .z, .v] (wordAt (ea m s)) s t) ∧
    ∃ t, exec (.bsetw mmmm m) s = .next t ∧ GoesOn (.bsetw mmmm m) s t ∧
      (∀ k, k < 16 →
        (t.peekWord .data (ea m s)).getLsbD k = ((s.peekWord .data (ea m s)).getLsbD k || mmmm.getLsbD k)) ∧
      IsResult (t.peekWord .data (ea m s)) t.ccr ∧ Frame [.n, .z, .v] (wordAt (ea m s)) s t

/-- STAA and STAB store the accumulator at the effective address, STD, STE, STX, STY, STZ, STS the 16-bit register there
and in the next byte, most significant byte first; N and Z of the value stored, V clear; no other byte changes
(40_data_movement.md R208 to R211; 45_indexing_extension.md R488 to R490; 46_stacking_ccr.md R543; 20_memory.md R100). -/
def Obligations.Stores : Prop :=
  (∀ row ∈ [(Instr.staa, R8.a), (Instr.stab, R8.b)], ∀ (m : MemOp) (s : State), s.Inv → s.Quiet →
    ∃ t, exec (row.1 m) s = .next t ∧ GoesOn (row.1 m) s t ∧ t.peek .data (ea m s) = getR8 row.2 s ∧
      IsResult (getR8 row.2 s) t.ccr ∧ Frame [.n, .z, .v] [ea m s] s t) ∧
  ∀ row ∈ [(Instr.std, R16.d), (Instr.ste, R16.e), (Instr.stx, R16.ix), (Instr.sty, R16.iy), (Instr.stz, R16.iz),
      (Instr.sts, R16.sp)],
    ∀ (m : MemOp) (s : State), (row.1 m).wellFormed = true → s.Inv → s.Quiet →
      ∃ t, exec (row.1 m) s = .next t ∧ GoesOn (row.1 m) s t ∧
        t.peek .data (ea m s) = hi (getR16 row.2 s) ∧ t.peek .data (ea m s + 1) = lo (getR16 row.2 s) ∧
        IsResult (getR16 row.2 s) t.ccr ∧ Frame [.n, .z, .v] (wordAt (ea m s)) s t

/-- LDED loads E from the word at EK : hhll and D from the word 2 above; STED stores E there and D 2 above; no flag
changes (40_data_movement.md R205, R212). -/
def Obligations.LongLoadStore : Prop :=
  ∀ (hhll : Word) (s : State), s.Inv → s.Quiet →
    (∃ t, exec (.lded hhll) s = .next t ∧ GoesOn (.lded hhll) s t ∧
      t.e = s.peekWord .data (ea (.ext hhll) s) ∧ t.d = s.peekWord .data (ea (.ext hhll) s + 2) ∧
      Frame [.e, .a, .b] [] s t) ∧
    ∃ t, exec (.sted hhll) s = .next t ∧ GoesOn (.sted hhll) s t ∧
      t.peekWord .data (ea (.ext hhll) s) = s.e ∧ t.peekWord .data (ea (.ext hhll) s + 2) = s.d ∧
      Frame [] (wordAt (ea (.ext hhll) s) ++ wordAt (ea (.ext hhll) s + 2)) s t

/-- MOVB and MOVW copy a byte or a word from the source address to the destination address, with N and Z of it and V
clear; the IXP forms use XK : IX as it was and then add the sign-extended offset to all 20 bits of it
(40_data_movement.md R206, R207; 30_encoding.md R170). -/
def Obligations.Moves : Prop :=
  ∀ (op : MovOp) (s : State), s.Inv → s.Quiet →
    let moved (t : State) : Prop :=
      match op with
      | .ixpToExt ff _ | .extToIxp ff _ =>
        ((t.pointer .x).toNat : Int) = ((s.pointer .x).toNat + ff.toInt) % 2 ^ 20
      | .extToExt _ _ => t.pointer .x = s.pointer .x
    (∃ t, exec (.movb op) s = .next t ∧ GoesOn (.movb op) s t ∧
      t.peek .data (movDst op s) = s.peek .data (movSrc op s) ∧
      IsResult (s.peek .data (movSrc op s)) t.ccr ∧ moved t ∧
      Frame [.n, .z, .v, .ix, .xk] [movDst op s] s t) ∧
    ∃ t, exec (.movw op) s = .next t ∧ GoesOn (.movw op) s t ∧
      t.peekWord .data (movDst op s) = s.peekWord .data (movSrc op s) ∧
      IsResult (s.peekWord .data (movSrc op s)) t.ccr ∧ moved t ∧
      Frame [.n, .z, .v, .ix, .xk] (wordAt (movDst op s)) s t

/-! ### Program control -/

/-- The short and long conditional branches: where the condition holds, execution goes to the address of the instruction
plus 6 plus the sign-extended offset, on 20 bits with bit 0 zero; else to the next instruction; nothing else changes
(44_program_control.md R400 to R434; 30_encoding.md R171). -/
def Obligations.Branches : Prop :=
  (∀ row ∈
      [(Instr.bra, fun _ => true), (Instr.brn, fun _ => false), (Instr.bhi, fun c : Ccr => !c.c && !c.z),
        (Instr.bls, fun c => c.c || c.z), (Instr.bcc, fun c => !c.c), (Instr.bcs, fun c => c.c),
        (Instr.bne, fun c => !c.z), (Instr.beq, fun c => c.z), (Instr.bvc, fun c => !c.v), (Instr.bvs, fun c => c.v),
        (Instr.bpl, fun c => !c.n), (Instr.bmi, fun c => c.n), (Instr.bge, fun c => c.n == c.v),
        (Instr.blt, fun c => c.n != c.v), (Instr.bgt, fun c => !c.z && c.n == c.v),
        (Instr.ble, fun c => c.z || c.n != c.v)],
    ∀ (rr : Byte) (s : State), ∃ t, exec (row.1 rr) s = .next t ∧ Frame [] [] s t ∧
      if row.2 s.ccr then GoesTo (s.pc.toNat + 6 + rr.toInt) t else GoesOn (row.1 rr) s t) ∧
  ∀ row ∈
      [(Instr.lbra, fun _ => true), (Instr.lbrn, fun _ => false), (Instr.lbhi, fun c : Ccr => !c.c && !c.z),
        (Instr.lbls, fun c => c.c || c.z), (Instr.lbcc, fun c => !c.c), (Instr.lbcs, fun c => c.c),
        (Instr.lbne, fun c => !c.z), (Instr.lbeq, fun c => c.z), (Instr.lbvc, fun c => !c.v),
        (Instr.lbvs, fun c => c.v), (Instr.lbpl, fun c => !c.n), (Instr.lbmi, fun c => c.n),
        (Instr.lbge, fun c => c.n == c.v), (Instr.lblt, fun c => c.n != c.v),
        (Instr.lbgt, fun c => !c.z && c.n == c.v), (Instr.lble, fun c => c.z || c.n != c.v),
        (Instr.lbmv, fun c => c.mv), (Instr.lbev, fun c => c.ev)],
    ∀ (rrrr : Word) (s : State), ∃ t, exec (row.1 rrrr) s = .next t ∧ Frame [] [] s t ∧
      if row.2 s.ccr then GoesTo (s.pc.toNat + 6 + rrrr.toInt) t else GoesOn (row.1 rrrr) s t

/-- BRCLR branches where every masked bit of the memory byte is 0, BRSET where every masked bit is 1, from the address of
the instruction plus 6; the byte is at XK : IX, YK : IY or ZK : IZ plus the offset, or at EK : hhll; nothing else changes
(44_program_control.md R435, R436; 30_encoding.md R171). -/
def Obligations.BitBranches : Prop :=
  ∀ (mm : Byte) (op : BrOp) (s : State), s.Quiet →
    let offset : Int := match op with
      | .ind8 _ _ rr => rr.toInt
      | .ind16 _ _ rrrr => rrrr.toInt
      | .ext _ rrrr => rrrr.toInt
    let byte : Byte := match op with
      | .ind8 r ff _ => s.peek .data (ea (.ind8 r ff) s)
      | .ind16 r gggg _ => s.peek .data (ea (.ind16 r gggg) s)
      | .ext hhll _ => s.peek .data (ea (.ext hhll) s)
    (∃ t, exec (.brclr mm op) s = .next t ∧ Frame [] [] s t ∧
      ((∀ k, k < 8 → mm.getLsbD k = true → byte.getLsbD k = false) → GoesTo (s.pc.toNat + 6 + offset) t) ∧
      ((∃ k, k < 8 ∧ mm.getLsbD k = true ∧ byte.getLsbD k = true) → GoesOn (.brclr mm op) s t)) ∧
    ∃ t, exec (.brset mm op) s = .next t ∧ Frame [] [] s t ∧
      ((∀ k, k < 8 → mm.getLsbD k = true → byte.getLsbD k = true) → GoesTo (s.pc.toNat + 6 + offset) t) ∧
      ((∃ k, k < 8 ∧ mm.getLsbD k = true ∧ byte.getLsbD k = false) → GoesOn (.brset mm op) s t)

/-- JMP goes to its target. JSR, LBSR and BSR stack PC and CCR, the address of the instruction plus 6, or plus 4 for BSR,
with the bank of that address in the CCR word, and go to their target; LBSR branches from the address plus 6, BSR from
the platform's BSR_BASE, the spec's own parameter (44_program_control.md R437 to R441; log entry 14). -/
def Obligations.JumpsAndCalls : Prop :=
  (∀ (op : JmpOp) (s : State), ∃ t, exec (.jmp op) s = .next t ∧
    GoesTo (jmpTarget op s).toNat t ∧ Frame [] [] s t) ∧
  (∀ (op : JmpOp) (s : State), s.Inv → s.Quiet → ∃ t, exec (.jsr op) s = .next t ∧
    GoesTo (jmpTarget op s).toNat t ∧ FrameStacked (s.pc + 6) s t ∧ Frame [.sp, .sk] (frameBytes s) s t) ∧
  (∀ (rrrr : Word) (s : State), s.Inv → s.Quiet → ∃ t, exec (.lbsr rrrr) s = .next t ∧
    GoesTo (s.pc.toNat + 6 + rrrr.toInt) t ∧ FrameStacked (s.pc + 6) s t ∧ Frame [.sp, .sk] (frameBytes s) s t) ∧
  ∀ (rr : Byte) (s : State), s.Inv → s.Quiet → ∃ t, exec (.bsr rr) s = .next t ∧
    GoesTo (s.pc.toNat + (if s.platform.bsrBase4 then 4 else 6) + rr.toInt) t ∧ FrameStacked (s.pc + 4) s t ∧
    Frame [.sp, .sk] (frameBytes s) s t

/-- RTS pulls the PK nibble and PC, subtracts 2 and leaves CCR[15:4]; RTI pulls the whole CCR and PC and subtracts 6, a
lowering of IP from 7 with IRQ7 asserted making a request pending (44_program_control.md R442, R443; 60_exceptions.md
R672). -/
def Obligations.Returns : Prop :=
  ∀ s : State, s.Quiet →
    let w1 := s.peekWord .data (s.skSp + 2)
    let w2 := s.peekWord .data (s.skSp + 4)
    (∃ t, exec .rts s = .next t ∧ GoesTo (w1.toNat % 16 * 65536 + w2.toNat - 2) t ∧ t.skSp = s.skSp + 4 ∧
      Frame [.sp, .sk] [] s t) ∧
    ∃ t, exec .rti s = .next t ∧ GoesTo (w1.toNat % 16 * 65536 + w2.toNat - 6) t ∧ t.skSp = s.skSp + 4 ∧
      t.ccr.pack (w1.extractLsb' 0 4) = w1 ∧
      t.hid.irq7Pending =
        (s.hid.irq7Pending || (decide (s.ccr.ip = 7#3 ∧ t.ccr.ip ≠ 7#3) && s.pins.irq.getLsbD 7)) ∧
      Frame ([.sp, .sk, .irq7Pending] ++ ccrLocs) [] s t

/-- SWI takes exception vector 6 with its own address plus 8 stacked; IP and every flag stay (44_program_control.md R444;
60_exceptions.md R682, R683). -/
def Obligations.SoftwareInterrupt : Prop :=
  ∀ s : State, s.Inv → s.Quiet → ∃ t, exec .swi s = .next t ∧ Entered 6 (s.pc + 8) s.ccr.ip [] s t

/-- A call and its return: after JSR, LBSR or BSR, RTS executed with the stack pointer and memory the call left resumes at
the instruction after the call, with SK : SP as before the call and the CCR of the moment; after SWI, RTI executed with
the stack pointer and memory the entry left resumes at the word after the SWI, with SK : SP and the CCR of the SWI
(44_program_control.md R438, R442, R443; 60_exceptions.md R682, R688). -/
def Obligations.CallReturn : Prop :=
  ∀ s t u : State, s.Inv → s.Quiet → u.skSp = t.skSp → u.mem = t.mem → u.Quiet →
    (∀ i, ((∃ op, i = .jsr op) ∨ (∃ rrrr, i = .lbsr rrrr) ∨ ∃ rr, i = .bsr rr) → exec i s = .next t →
      ∃ v, exec .rts u = .next v ∧ GoesOn i s v ∧ v.skSp = s.skSp ∧ v.ccr = u.ccr) ∧
    (exec .swi s = .next t → ∃ v, exec .rti u = .next v ∧ GoesOn .swi s v ∧ v.skSp = s.skSp ∧ v.ccr = s.ccr)

/-! ### Indexing, stack and condition codes -/

/-- The index additions: ABX adds B as unsigned, ADX D as signed, AEX E as signed, AIX the signed immediate to all 20 bits
of XK : IX, and so for Y and Z; AIX sets Z of the 16-bit register alone, the others no flag; AIS adds the signed
immediate to SK : SP without a flag (45_indexing_extension.md R470 to R481; 46_stacking_ccr.md R540). -/
def Obligations.IndexAddition : Prop :=
  ∀ s : State,
    (∀ row ∈
        [(Instr.abx, Idx.x, (s.b.toNat : Int)), (Instr.aby, Idx.y, (s.b.toNat : Int)),
          (Instr.abz, Idx.z, (s.b.toNat : Int)), (Instr.adx, Idx.x, s.d.toInt), (Instr.ady, Idx.y, s.d.toInt),
          (Instr.adz, Idx.z, s.d.toInt), (Instr.aex, Idx.x, s.e.toInt), (Instr.aey, Idx.y, s.e.toInt),
          (Instr.aez, Idx.z, s.e.toInt)],
      ∃ t, exec row.1 s = .next t ∧ GoesOn row.1 s t ∧
        ((t.pointer row.2.1).toNat : Int) = ((s.pointer row.2.1).toNat + row.2.2) % 2 ^ 20 ∧
        Frame (pointerLocs row.2.1) [] s t) ∧
    ∀ i : Imm,
      let value : Int := match i with
        | .imm8 ii => ii.toInt
        | .imm16 jjkk => jjkk.toInt
      (∀ row ∈ [(Instr.aix, Idx.x), (Instr.aiy, Idx.y), (Instr.aiz, Idx.z)],
        ∃ t, exec (row.1 i) s = .next t ∧ GoesOn (row.1 i) s t ∧
          ((t.pointer row.2).toNat : Int) = ((s.pointer row.2).toNat + value) % 2 ^ 20 ∧
          t.ccr.z = decide ((t.index row.2).toNat = 0) ∧ Frame (.z :: pointerLocs row.2) [] s t) ∧
      ∃ t, exec (.ais i) s = .next t ∧ GoesOn (.ais i) s t ∧
        (t.skSp.toNat : Int) = (s.skSp.toNat + value) % 2 ^ 20 ∧ Frame [.sp, .sk] [] s t

/-- The transfers of 20-bit pointers: TSX gives XK : IX the value SK : SP plus 2, TXS gives SK : SP the value XK : IX less
2, TXY copies XK : IX to YK : IY, and so for the others; TBEK and its like copy B[3:0] to the field, TEKB and its like
copy the field to B with bits [7:4] zero; no flag changes (45_indexing_extension.md R491 to R502, R509 to R518). -/
def Obligations.PointerTransfers : Prop :=
  ∀ s : State,
    (∀ row ∈ [(Instr.tsx, Idx.x), (Instr.tsy, Idx.y), (Instr.tsz, Idx.z)],
      ∃ t, exec row.1 s = .next t ∧ GoesOn row.1 s t ∧ t.pointer row.2 = s.skSp + 2 ∧
        Frame (pointerLocs row.2) [] s t) ∧
    (∀ row ∈ [(Instr.txs, Idx.x), (Instr.tys, Idx.y), (Instr.tzs, Idx.z)],
      ∃ t, exec row.1 s = .next t ∧ GoesOn row.1 s t ∧ t.skSp = s.pointer row.2 - 2 ∧ Frame [.sp, .sk] [] s t) ∧
    (∀ row ∈
        [(Instr.txy, Idx.x, Idx.y), (Instr.txz, Idx.x, Idx.z), (Instr.tyx, Idx.y, Idx.x), (Instr.tyz, Idx.y, Idx.z),
          (Instr.tzx, Idx.z, Idx.x), (Instr.tzy, Idx.z, Idx.y)],
      ∃ t, exec row.1 s = .next t ∧ GoesOn row.1 s t ∧ t.pointer row.2.2 = s.pointer row.2.1 ∧
        Frame (pointerLocs row.2.2) [] s t) ∧
    ∀ row ∈
        [(Instr.tbek, Instr.tekb, State.ek, Loc.ek), (Instr.tbxk, Instr.txkb, State.xk, Loc.xk),
          (Instr.tbyk, Instr.tykb, State.yk, Loc.yk), (Instr.tbzk, Instr.tzkb, State.zk, Loc.zk),
          (Instr.tbsk, Instr.tskb, State.sk, Loc.sk)],
      (∃ t, exec row.1 s = .next t ∧ GoesOn row.1 s t ∧ (row.2.2.1 t).toNat = s.b.toNat % 16 ∧
        Frame [row.2.2.2] [] s t) ∧
      ∃ t, exec row.2.1 s = .next t ∧ GoesOn row.2.1 s t ∧ t.b.toNat = (row.2.2.1 s).toNat ∧ Frame [.b] [] s t

/-- PSHA and PSHB, one word each, store the accumulator at SK : SP plus 1 and lower SK : SP by 1; PULA and PULB, one word
each, load it from SK : SP plus 2 and raise SK : SP by 1; SK follows an overflow of SP, and no flag changes
(46_stacking_ccr.md R544 to R547). -/
def Obligations.BytePushPull : Prop :=
  ∀ s : State, s.Inv → s.Quiet →
    (∀ row ∈ [(Instr.psha, R8.a, 0x3708#16), (Instr.pshb, R8.b, 0x3718#16)],
      encode row.1 = [row.2.2] ∧
        ∃ t, exec row.1 s = .next t ∧ GoesOn row.1 s t ∧ t.peek .data (s.skSp + 1) = getR8 row.2.1 s ∧
          t.skSp = s.skSp - 1 ∧ Frame [.sp, .sk] [s.skSp + 1] s t) ∧
    ∀ row ∈ [(Instr.pula, R8.a, 0x3709#16), (Instr.pulb, R8.b, 0x3719#16)],
      encode row.1 = [row.2.2] ∧
        ∃ t, exec row.1 s = .next t ∧ GoesOn row.1 s t ∧ getR8 row.2.1 t = s.peek .data (s.skSp + 2) ∧
          t.skSp = s.skSp + 1 ∧ Frame ([.sp, .sk] ++ row.2.1.locs) [] s t

/-- PSHM pushes, for each set bit from 0 to 6, the word of D, E, IX, IY, IZ, K, CCR: each stands 2 lower for every set bit
below it, and SK : SP falls by 2 for each; the CCR word has the bank of the instruction's address plus 6; bit 7 pushes
nothing (46_stacking_ccr.md R550; log entry 17 for bit 7). -/
def Obligations.PushMultiple : Prop :=
  ∀ (mask : Byte) (s : State), s.Inv → s.Quiet →
    ∃ t, exec (.pshm mask) s = .next t ∧ GoesOn (.pshm mask) s t ∧
      t.skSp = s.skSp - BitVec.ofNat 20 (2 * setBelow mask 7) ∧
      (∀ k, k < 7 → mask.getLsbD k = true →
        t.peekWord .data (s.skSp - BitVec.ofNat 20 (2 * setBelow mask k)) =
          [s.d, s.e, s.ix, s.iy, s.iz, s.k, s.ccr.pack (bank (s.pc + 6))].getD k 0#16) ∧
      Frame [.sp, .sk]
        ((List.range (setBelow mask 7)).flatMap fun j => wordAt (s.skSp - BitVec.ofNat 20 (2 * j))) s t

/-- PULM pulls, for each set bit from 0 to 6, the word of CCR[15:4], K, IZ, IY, IX, E, D from the next place of the stack;
PK stays, and a register whose bit is clear stays; bit 7 pulls nothing (46_stacking_ccr.md R551; log entry 17 for
bit 7). -/
def Obligations.PullMultiple : Prop :=
  ∀ (mask : Byte) (s : State), s.Quiet →
    let word (k : Nat) : Word := s.peekWord .data (s.skSp + BitVec.ofNat 20 (2 * setBelow mask k + 2))
    ∃ t, exec (.pulm mask) s = .next t ∧ GoesOn (.pulm mask) s t ∧
      t.skSp = s.skSp + BitVec.ofNat 20 (2 * setBelow mask 7) ∧
      (mask.getLsbD 0 = true → t.ccr.pack ((word 0).extractLsb' 0 4) = word 0) ∧
      (mask.getLsbD 1 = true → t.k = word 1) ∧ (mask.getLsbD 2 = true → t.iz = word 2) ∧
      (mask.getLsbD 3 = true → t.iy = word 3) ∧ (mask.getLsbD 4 = true → t.ix = word 4) ∧
      (mask.getLsbD 5 = true → t.e = word 5) ∧ (mask.getLsbD 6 = true → t.d = word 6) ∧
      Frame
        ([.sp, .sk] ++ (if mask.getLsbD 0 then ccrLocs ++ [.irq7Pending] else []) ++
          (if mask.getLsbD 1 then [.ek, .xk, .yk, .zk] else []) ++ (if mask.getLsbD 2 then [.iz] else []) ++
          (if mask.getLsbD 3 then [.iy] else []) ++ (if mask.getLsbD 4 then [.ix] else []) ++
          (if mask.getLsbD 5 then [.e] else []) ++ if mask.getLsbD 6 then [.a, .b] else []) [] s t

/-- ANDP and ORP combine CCR[15:4] with the operand, TAP writes CCR[15:8] from A, TDP writes CCR[15:4] from D; none
writes PK, and interrupts are not examined at the next boundary. A lowering of IP from 7 with IRQ7 asserted makes a
request pending. TPA copies CCR[15:8] to A, TPD the CCR to D with the bank of the instruction's address plus 6 in bits
3 to 0 (46_stacking_ccr.md R552 to R557, R560; 10_state.md R48, R49; 60_exceptions.md R672, R676). -/
def Obligations.CcrTransfers : Prop :=
  ∀ s : State,
    (∀ (jjkk : Word), ∀ row ∈
        [(Instr.andp jjkk, s.ccr.pack 0#4 &&& jjkk), (Instr.orp jjkk, s.ccr.pack 0#4 ||| jjkk),
          (Instr.tap, s.a ++ lo (s.ccr.pack 0#4)), (Instr.tdp, s.d)],
      ∃ t, exec row.1 s = .next t ∧ GoesOn row.1 s t ∧ t.ccr.pack 0#4 = row.2 &&& 0xFFF0#16 ∧
        t.hid.irqInhibit = true ∧
        t.hid.irq7Pending =
          (s.hid.irq7Pending || (decide (s.ccr.ip = 7#3 ∧ t.ccr.ip ≠ 7#3) && s.pins.irq.getLsbD 7)) ∧
        Frame ([.inhibit, .irq7Pending] ++ ccrLocs) [] s t) ∧
    (∃ t, exec .tpa s = .next t ∧ GoesOn .tpa s t ∧ t.a = hi (s.ccr.pack 0#4) ∧ Frame [.a] [] s t) ∧
    ∃ t, exec .tpd s = .next t ∧ GoesOn .tpd s t ∧ t.d = s.ccr.pack (bank (s.pc + 6)) ∧ Frame [.a, .b] [] s t

/-! ### Multiplication, division, decimal adjust -/

/-- MUL gives D the product of A and B, with C its bit 7; EMUL and EMULS give E : D the unsigned and the signed product of
E and D, with N and Z of 32 bits, C its bit 15 and V as it was; FMULS gives twice the signed product, and for -1 times
-1 the value $80000000 with V set (42_mul_div_inc_clr.md R293, R294, R296, R298). -/
def Obligations.Multiplication : Prop :=
  ∀ s : State,
    (∃ t, exec .mul s = .next t ∧ GoesOn .mul s t ∧ t.d.toNat = s.a.toNat * s.b.toNat ∧
      t.ccr.c = t.d.getLsbD 7 ∧ Frame [.a, .b, .c] [] s t) ∧
    (∃ t, exec .emul s = .next t ∧ GoesOn .emul s t ∧ t.ed.toNat = s.e.toNat * s.d.toNat ∧
      SetsNZ t.ed t.ccr ∧ t.ccr.c = t.ed.getLsbD 15 ∧ Frame [.a, .b, .e, .n, .z, .c] [] s t) ∧
    (∃ t, exec .emuls s = .next t ∧ GoesOn .emuls s t ∧ t.ed.toInt = s.e.toInt * s.d.toInt ∧
      SetsNZ t.ed t.ccr ∧ t.ccr.c = t.ed.getLsbD 15 ∧ Frame [.a, .b, .e, .n, .z, .c] [] s t) ∧
    ∃ t, exec .fmuls s = .next t ∧ GoesOn .fmuls s t ∧
      (if s.e = 0x8000#16 ∧ s.d = 0x8000#16 then t.ed = 0x80000000#32 ∧ t.ccr.v = true
        else t.ed.toInt = 2 * (s.e.toInt * s.d.toInt) ∧ t.ccr.v = false) ∧
      SetsNZ t.ed t.ccr ∧ t.ccr.c = t.ed.getLsbD 15 ∧ Frame [.a, .b, .e, .n, .z, .v, .c] [] s t

/-- EDIV and EDIVS with a divisor that is not zero: where the quotient fits 16 bits it goes to IX and the remainder to D,
with V clear, N and Z of IX, and C when twice the remainder reaches the divisor in magnitude; where it does not, V is set
and E keeps its value, while IX, D, N, Z and C are the model's free values, of which nothing is said
(42_mul_div_inc_clr.md R291, R292; log entry 7). That EDIVS rounds toward zero is the spec's own choice (log entry 12). -/
def Obligations.ExtendedDivision : Prop :=
  ∀ s : State, s.ix ≠ 0#16 →
    (∃ t, exec .ediv s = .next t ∧ GoesOn .ediv s t ∧ Frame [.ix, .a, .b, .n, .z, .v, .c] [] s t ∧
      if s.ed.toNat / s.ix.toNat ≤ 0xFFFF then
        t.ix.toNat = s.ed.toNat / s.ix.toNat ∧ t.d.toNat = s.ed.toNat % s.ix.toNat ∧ IsResult t.ix t.ccr ∧
          t.ccr.c = decide (s.ix.toNat ≤ 2 * t.d.toNat)
      else t.ccr.v = true) ∧
    ∃ t, exec .edivs s = .next t ∧ GoesOn .edivs s t ∧ Frame [.ix, .a, .b, .n, .z, .v, .c] [] s t ∧
      if outOfRange 16 (s.ed.toInt.tdiv s.ix.toInt) then t.ccr.v = true
      else
        t.ix.toInt = s.ed.toInt.tdiv s.ix.toInt ∧ t.d.toInt = s.ed.toInt.tmod s.ix.toInt ∧ IsResult t.ix t.ccr ∧
          t.ccr.c = decide (s.ix.toInt.natAbs ≤ 2 * t.d.toInt.natAbs)

/-- EDIV and EDIVS with a divisor of zero take exception vector 8 with their own address plus 8 stacked; E, D and IX stay,
and the stacked CCR image and the CCR differ from the CCR before in N, Z, V and C alone, which are the model's free
values (42_mul_div_inc_clr.md R291, R292; 60_exceptions.md R682, R686; log entry 7). -/
def Obligations.DivisionByZero : Prop :=
  ∀ row ∈ [Instr.ediv, Instr.edivs], ∀ s : State, s.Inv → s.Quiet → s.ix = 0#16 →
    ∃ t n z v c, exec row s = .next t ∧
      Entered 8 (s.pc + 8) s.ccr.ip [] { s with ccr := { s.ccr with n := n, z := z, v := v, c := c } } t

/-- IDIV divides D by IX, unsigned: quotient to IX, remainder to D, Z of IX, V and C clear; by zero it gives IX $FFFF and
C set, D being the model's free value. FDIV divides D as a fraction by IX: where IX exceeds D the quotient is D times
65536 over IX; else IX is $FFFF, V is set, C is set when IX was zero, and D is the model's free value. N stays. Neither
takes an exception (42_mul_div_inc_clr.md R295, R297; log entry 7). -/
def Obligations.ShortDivision : Prop :=
  ∀ s : State,
    (∃ t, exec .idiv s = .next t ∧ GoesOn .idiv s t ∧ Frame [.ix, .a, .b, .z, .v, .c] [] s t ∧
      t.ccr.z = decide (t.ix.toNat = 0) ∧ t.ccr.v = false ∧ t.ccr.c = decide (s.ix = 0#16) ∧
      if s.ix = 0#16 then t.ix = 0xFFFF#16
      else t.ix.toNat = s.d.toNat / s.ix.toNat ∧ t.d.toNat = s.d.toNat % s.ix.toNat) ∧
    ∃ t, exec .fdiv s = .next t ∧ GoesOn .fdiv s t ∧ Frame [.ix, .a, .b, .z, .v, .c] [] s t ∧
      t.ccr.z = decide (t.ix.toNat = 0) ∧ t.ccr.v = decide (s.ix.toNat ≤ s.d.toNat) ∧
      t.ccr.c = decide (s.ix = 0#16) ∧
      if s.ix.toNat ≤ s.d.toNat then t.ix = 0xFFFF#16
      else
        t.ix.toNat = s.d.toNat * 65536 / s.ix.toNat ∧ t.d.toNat = s.d.toNat * 65536 % s.ix.toNat

/-- DAA on the sum of two decimal digit pairs: after ABA of two bytes of decimal digits, DAA leaves in A the decimal
digits of the sum and in C its carry, with N and Z of A; V is the model's free value (41_add_sub_compare.md R241, R261;
log entry 7). From any state DAA completes with N and Z of A and leaves H. SXT gives A copies of the sign of B, with N
and Z of A (41_add_sub_compare.md R262). -/
def Obligations.DecimalAdjust : Prop :=
  (∀ (s t : State) (x1 x0 y1 y0 : Nat), x1 < 10 → x0 < 10 → y1 < 10 → y0 < 10 →
    s.a.toNat = 16 * x1 + x0 → s.b.toNat = 16 * y1 + y0 → exec .aba s = .next t →
    ∃ u, exec .daa t = .next u ∧ GoesOn .daa t u ∧
      u.a.toNat = 16 * ((10 * x1 + x0 + (10 * y1 + y0)) % 100 / 10) + (10 * x1 + x0 + (10 * y1 + y0)) % 10 ∧
      u.ccr.c = decide (100 ≤ 10 * x1 + x0 + (10 * y1 + y0))) ∧
  ∀ s : State,
    (∃ t, exec .daa s = .next t ∧ GoesOn .daa s t ∧ SetsNZ t.a t.ccr ∧ Frame [.a, .n, .z, .v, .c] [] s t) ∧
    ∃ t, exec .sxt s = .next t ∧ GoesOn .sxt s t ∧ t.d.toInt = s.b.toInt ∧ SetsNZ t.a t.ccr ∧
      Frame [.a, .n, .z] [] s t

/-! ### Digital signal processing -/

/-- MAC adds twice the signed product of HR and IR to AM, with EV, MV and SL; E : D is that product and V its -1 times -1
case; IX and IY move by their offsets modulo the buffer of their mask, IZ takes HR, and HR and IR take the words at the
new XK : IX and YK : IY. Under a mask that is not 2^k - 1 the low byte of the index register is the model's free value
(47_dsp.md R571 to R574, R580, R584; log entry 28). That EV takes the sign overflow of this addition, and not the sticky MV,
is the spec's own decision D16 (log entry 18). -/
def Obligations.MultiplyAccumulate : Prop :=
  ∀ (xoyo : Byte) (s : State), s.Quiet →
    ∃ t, exec (.mac xoyo) s = .next t ∧ GoesOn (.mac xoyo) s t ∧
      Accumulates (2 * (s.mac.hr.toInt * s.mac.ir.toInt)) s t ∧
      t.ed = BitVec.ofInt 32 (2 * (s.mac.hr.toInt * s.mac.ir.toInt)) ∧
      t.ccr.v = decide (s.mac.hr = 0x8000#16 ∧ s.mac.ir = 0x8000#16) ∧ t.iz = s.mac.hr ∧
      (RegularMask s.mac.xmsk → (t.ix.toNat : Int) = moduloIndex s.ix s.mac.xmsk (xoyo.extractLsb' 4 4)) ∧
      (¬RegularMask s.mac.xmsk → hi t.ix = hi s.ix) ∧
      (RegularMask s.mac.ymsk → (t.iy.toNat : Int) = moduloIndex s.iy s.mac.ymsk (xoyo.extractLsb' 0 4)) ∧
      (¬RegularMask s.mac.ymsk → hi t.iy = hi s.iy) ∧
      t.mac.hr = s.peekWord .data (t.pointer .x) ∧ t.mac.ir = s.peekWord .data (t.pointer .y) ∧
      Frame [.a, .b, .e, .ix, .iy, .iz, .mv, .ev, .v, .hr, .ir, .am, .sl] [] s t

/-- RMAC repeats what MAC does to AM, EV, MV, SL, IX, IY, HR and IR, once for a negative count in E but 32769 times for
$8000, and else one time more than the count; IZ and V stay, and at the end E and D are the model's free values. Where
the pins suspend it after fewer iterations, PK:PC still points at it and E holds what is left of the count, so that it is
executed again; D is then the free value (47_dsp.md R581, R594; log entries 7, 13). The sequence `u` gives the states
between the iterations. -/
def Obligations.RepeatMultiplyAccumulate : Prop :=
  ∀ (xoyo : Byte) (s : State), s.Quiet →
    let total := if s.e = 0x8000#16 then 32769 else if s.e.toInt < 0 then 1 else s.e.toNat + 1
    let done := match s.pins.suspend with
      | none => total
      | some k => min (k + 1) total
    ∃ t, exec (.rmac xoyo) s = .next t ∧
      (if done = total then GoesOn (.rmac xoyo) s t else t.pc = s.pc ∧ t.e = s.e - BitVec.ofNat 16 done) ∧
      Frame [.a, .b, .e, .ix, .iy, .mv, .ev, .hr, .ir, .am, .sl] [] s t ∧
      (RegularMask s.mac.xmsk → RegularMask s.mac.ymsk →
        ∃ u : Nat → State, u 0 = s ∧
          (∀ k, k < done → ∃ v, exec (.mac xoyo) (u k) = .next v ∧ (u (k + 1)).mac = v.mac ∧
            (u (k + 1)).ix = v.ix ∧ (u (k + 1)).iy = v.iy ∧ (u (k + 1)).ccr.ev = v.ccr.ev ∧
            (u (k + 1)).ccr.mv = v.ccr.mv ∧
            Frame [.a, .b, .e, .ix, .iy, .mv, .ev, .hr, .ir, .am, .sl] [] s (u (k + 1))) ∧
          t.mac = (u done).mac ∧ t.ix = (u done).ix ∧ t.iy = (u done).iy ∧ t.ccr = (u done).ccr)

/-- LDHI loads HR and IR from XK : IX and YK : IY; TDMSK loads the masks from D; TEDM, TEM and CLRM load AM with E : D
sign-extended, E in AM[31:16] sign-extended, and zero, clearing MV and EV; TMXED copies AM to IX, E and D; SL stays
(47_dsp.md R579, R582, R583, R588, R589, R593). -/
def Obligations.MacTransfers : Prop :=
  ∀ s : State,
    (s.Quiet → ∃ t, exec .ldhi s = .next t ∧ GoesOn .ldhi s t ∧ t.mac.hr = s.peekWord .data (s.pointer .x) ∧
      t.mac.ir = s.peekWord .data (s.pointer .y) ∧ Frame [.hr, .ir] [] s t) ∧
    (∃ t, exec .tdmsk s = .next t ∧ GoesOn .tdmsk s t ∧ t.mac.xmsk = s.a ∧ t.mac.ymsk = s.b ∧
      Frame [.xmsk, .ymsk] [] s t) ∧
    (∀ row ∈ [(Instr.tedm, s.ed.toInt), (Instr.tem, s.e.toInt * 65536), (Instr.clrm, 0)],
      ∃ t, exec row.1 s = .next t ∧ GoesOn row.1 s t ∧ t.mac.am.toInt = row.2 ∧ t.ccr.mv = false ∧
        t.ccr.ev = false ∧ Frame [.am, .mv, .ev] [] s t) ∧
    ∃ t, exec .tmxed s = .next t ∧ GoesOn .tmxed s t ∧
      t.ix.toInt * 2 ^ 32 + t.e.toNat * 2 ^ 16 + t.d.toNat = s.mac.am.toInt ∧ Frame [.ix, .e, .a, .b] [] s t

/-- ACE adds E, aligned with AM[31:16], to AM, and ACED adds E : D, with EV, MV and SL; ASLM doubles AM with the old sign
in C, N of the result, and EV, MV and SL; ASRM halves AM toward minus infinity with its old bit 0 in C, N and EV
(47_dsp.md R571 to R578). That EV takes the sign overflow of the present operation, and not the sticky MV, is the spec's own
decision D16 (log entry 18). -/
def Obligations.AccumulatorM : Prop :=
  ∀ s : State,
    (∃ t, exec .ace s = .next t ∧ GoesOn .ace s t ∧ Accumulates (s.e.toInt * 65536) s t ∧
      Frame [.am, .ev, .mv, .sl] [] s t) ∧
    (∃ t, exec .aced s = .next t ∧ GoesOn .aced s t ∧ Accumulates s.ed.toInt s t ∧
      Frame [.am, .ev, .mv, .sl] [] s t) ∧
    (∃ t, exec .aslm s = .next t ∧ GoesOn .aslm s t ∧ Accumulates s.mac.am.toInt s t ∧
      t.ccr.n = decide (t.mac.am.toInt < 0) ∧ t.ccr.c = decide (s.mac.am.toInt < 0) ∧
      Frame [.am, .ev, .mv, .sl, .n, .c] [] s t) ∧
    ∃ t, exec .asrm s = .next t ∧ GoesOn .asrm s t ∧ t.mac.am.toInt = s.mac.am.toInt / 2 ∧
      t.ccr.ev = outOfRange 32 t.mac.am.toInt ∧ t.ccr.n = decide (t.mac.am.toInt < 0) ∧
      t.ccr.c = decide (s.mac.am.toNat % 2 = 1) ∧ Frame [.am, .ev, .n, .c] [] s t

/-- PSHMAC pushes the masks, the word of SL and AM[35:32], AM[31:16], AM[15:0], IR and HR, and PULMAC loads them back in
the reverse order; bits [14:4] of the SL word are the model's free value when pushed and nothing when pulled (47_dsp.md
R585 to R587; log entry 7). -/
def Obligations.MacStack : Prop :=
  ∀ s : State, s.Quiet →
    (s.Inv → ∃ t, exec .pshmac s = .next t ∧ GoesOn .pshmac s t ∧ t.skSp = s.skSp - 12 ∧
      t.peekWord .data s.skSp = s.mac.xmsk ++ s.mac.ymsk ∧
      (t.peekWord .data (s.skSp - 2)).getLsbD 15 = s.mac.sl ∧
      (t.peekWord .data (s.skSp - 2)).extractLsb' 0 4 ++ t.peekWord .data (s.skSp - 4) ++
        t.peekWord .data (s.skSp - 6) = s.mac.am ∧
      t.peekWord .data (s.skSp - 8) = s.mac.ir ∧ t.peekWord .data (s.skSp - 10) = s.mac.hr ∧
      Frame [.sp, .sk] ((List.range 6).flatMap fun j => wordAt (s.skSp - BitVec.ofNat 20 (2 * j))) s t) ∧
    ∃ t, exec .pulmac s = .next t ∧ GoesOn .pulmac s t ∧ t.skSp = s.skSp + 12 ∧
      t.mac.hr = s.peekWord .data (s.skSp + 2) ∧ t.mac.ir = s.peekWord .data (s.skSp + 4) ∧
      t.mac.am = (s.peekWord .data (s.skSp + 10)).extractLsb' 0 4 ++ s.peekWord .data (s.skSp + 8) ++
        s.peekWord .data (s.skSp + 6) ∧
      t.mac.sl = (s.peekWord .data (s.skSp + 10)).getLsbD 15 ∧
      t.mac.xmsk ++ t.mac.ymsk = s.peekWord .data (s.skSp + 12) ∧
      Frame [.sp, .sk, .hr, .ir, .am, .sl, .xmsk, .ymsk] [] s t

/-- TMER rounds AM convergently to AM[35:16], sets MV with SL when the rounding overflows AM, sets EV when the rounded
value leaves AM[31:16], and delivers it to E, or the saturation value when SM is set with EV or MV; TMET delivers
AM[31:16] without rounding; AM stays (47_dsp.md R590 to R592; the order of flags and saturation is the spec's own
choice, log entry 18). -/
def Obligations.RoundAndSaturate : Prop :=
  ∀ s : State,
    (∃ t, exec .tmer s = .next t ∧ GoesOn .tmer s t ∧
      (let low := s.mac.am.toNat % 65536
      let high := s.mac.am.toInt / 65536
      let rounded := if 0x8000 < low ∨ low = 0x8000 ∧ high % 2 = 1 then high + 1 else high
      t.ccr.mv = (s.ccr.mv || decide (2 ^ 19 ≤ rounded)) ∧
        t.mac.sl = (s.mac.sl || (decide (2 ^ 19 ≤ rounded) && !s.ccr.mv)) ∧
        t.ccr.ev = (s.ccr.ev || outOfRange 16 rounded) ∧ Delivers rounded s t) ∧
      Frame [.e, .mv, .ev, .n, .z, .sl] [] s t) ∧
    ∃ t, exec .tmet s = .next t ∧ GoesOn .tmet s t ∧ Delivers (s.mac.am.toInt / 65536) s t ∧
      Frame [.e, .n, .z] [] s t

/-! ### Stop, wait, background, null -/

/-- LPSTOP with S set does nothing but go on; with S clear it hands IP out and stops. WAI waits. BGND enters background
mode when it is enabled, with the next instruction in PK:PC, and else takes the illegal instruction exception. NOP does
nothing but go on (48_stop_wait_misc.md R610 to R613; 60_exceptions.md R685, R691). That BGND leaves the next instruction in
PK:PC is the spec's own decision D23 (log entry 31). -/
def Obligations.StopAndWait : Prop :=
  ∀ s : State,
    (∃ t, exec .lpstop s = .next t ∧ GoesOn .lpstop s t ∧
      if s.ccr.s then Frame [] [] s t
      else
        t.run = .stopped ∧ t.hid.stopMask = s.ccr.ip ∧ t.events = s.events ++ [.lpstopBroadcast s.ccr.ip] ∧
          Frame [.run, .stopMask, .events] [] s t) ∧
    (∃ t, exec .wai s = .next t ∧ GoesOn .wai s t ∧ t.run = .waiting ∧ Frame [.run] [] s t) ∧
    (s.hid.bdmEnabled = true →
      ∃ t, exec .bgnd s = .next t ∧ GoesOn .bgnd s t ∧ t.run = .background ∧ Frame [.run] [] s t) ∧
    (s.hid.bdmEnabled = false → s.Inv → s.Quiet →
      ∃ t, exec .bgnd s = .next t ∧ Entered 7 (s.pc + 8) s.ccr.ip [] s t) ∧
    ∃ t, exec .nop s = .next t ∧ GoesOn .nop s t ∧ Frame [] [] s t
end

