-- ==== Sys2Proof/Laws/State.lean ====
section
/-!
SUPPORT. One lemma per field for each update of the state, so that no later proof unfolds a record update. An update
by a register name has one lemma for each field that no register of its kind names.
-/

namespace Sys2Proof.Machine

/-! ### State.setD -/

@[simp] theorem State.setD_a (v : Word) (s : State) : (s.setD v).a = hi v := rfl
@[simp] theorem State.setD_b (v : Word) (s : State) : (s.setD v).b = lo v := rfl
@[simp] theorem State.setD_e (v : Word) (s : State) : (s.setD v).e = s.e := rfl
@[simp] theorem State.setD_ix (v : Word) (s : State) : (s.setD v).ix = s.ix := rfl
@[simp] theorem State.setD_iy (v : Word) (s : State) : (s.setD v).iy = s.iy := rfl
@[simp] theorem State.setD_iz (v : Word) (s : State) : (s.setD v).iz = s.iz := rfl
@[simp] theorem State.setD_sp (v : Word) (s : State) : (s.setD v).sp = s.sp := rfl
@[simp] theorem State.setD_ek (v : Word) (s : State) : (s.setD v).ek = s.ek := rfl
@[simp] theorem State.setD_xk (v : Word) (s : State) : (s.setD v).xk = s.xk := rfl
@[simp] theorem State.setD_yk (v : Word) (s : State) : (s.setD v).yk = s.yk := rfl
@[simp] theorem State.setD_zk (v : Word) (s : State) : (s.setD v).zk = s.zk := rfl
@[simp] theorem State.setD_sk (v : Word) (s : State) : (s.setD v).sk = s.sk := rfl
@[simp] theorem State.setD_pc (v : Word) (s : State) : (s.setD v).pc = s.pc := rfl
@[simp] theorem State.setD_ccr (v : Word) (s : State) : (s.setD v).ccr = s.ccr := rfl
@[simp] theorem State.setD_mac (v : Word) (s : State) : (s.setD v).mac = s.mac := rfl
@[simp] theorem State.setD_run (v : Word) (s : State) : (s.setD v).run = s.run := rfl
@[simp] theorem State.setD_hid (v : Word) (s : State) : (s.setD v).hid = s.hid := rfl
@[simp] theorem State.setD_mem (v : Word) (s : State) : (s.setD v).mem = s.mem := rfl
@[simp] theorem State.setD_pmem (v : Word) (s : State) : (s.setD v).pmem = s.pmem := rfl
@[simp] theorem State.setD_platform (v : Word) (s : State) : (s.setD v).platform = s.platform := rfl
@[simp] theorem State.setD_pins (v : Word) (s : State) : (s.setD v).pins = s.pins := rfl
@[simp] theorem State.setD_script (v : Word) (s : State) : (s.setD v).script = s.script := rfl
@[simp] theorem State.setD_events (v : Word) (s : State) : (s.setD v).events = s.events := rfl
@[simp] theorem State.setD_draws (v : Word) (s : State) : (s.setD v).draws = s.draws := rfl
@[simp] theorem State.setD_stores (v : Word) (s : State) : (s.setD v).stores = s.stores := rfl

/-! ### State.setEd -/

@[simp] theorem State.setEd_a (v : BitVec 32) (s : State) : (s.setEd v).a = hi (v.extractLsb' 0 16) := rfl
@[simp] theorem State.setEd_b (v : BitVec 32) (s : State) : (s.setEd v).b = lo (v.extractLsb' 0 16) := rfl
@[simp] theorem State.setEd_e (v : BitVec 32) (s : State) : (s.setEd v).e = v.extractLsb' 16 16 := rfl
@[simp] theorem State.setEd_ix (v : BitVec 32) (s : State) : (s.setEd v).ix = s.ix := rfl
@[simp] theorem State.setEd_iy (v : BitVec 32) (s : State) : (s.setEd v).iy = s.iy := rfl
@[simp] theorem State.setEd_iz (v : BitVec 32) (s : State) : (s.setEd v).iz = s.iz := rfl
@[simp] theorem State.setEd_sp (v : BitVec 32) (s : State) : (s.setEd v).sp = s.sp := rfl
@[simp] theorem State.setEd_ek (v : BitVec 32) (s : State) : (s.setEd v).ek = s.ek := rfl
@[simp] theorem State.setEd_xk (v : BitVec 32) (s : State) : (s.setEd v).xk = s.xk := rfl
@[simp] theorem State.setEd_yk (v : BitVec 32) (s : State) : (s.setEd v).yk = s.yk := rfl
@[simp] theorem State.setEd_zk (v : BitVec 32) (s : State) : (s.setEd v).zk = s.zk := rfl
@[simp] theorem State.setEd_sk (v : BitVec 32) (s : State) : (s.setEd v).sk = s.sk := rfl
@[simp] theorem State.setEd_pc (v : BitVec 32) (s : State) : (s.setEd v).pc = s.pc := rfl
@[simp] theorem State.setEd_ccr (v : BitVec 32) (s : State) : (s.setEd v).ccr = s.ccr := rfl
@[simp] theorem State.setEd_mac (v : BitVec 32) (s : State) : (s.setEd v).mac = s.mac := rfl
@[simp] theorem State.setEd_run (v : BitVec 32) (s : State) : (s.setEd v).run = s.run := rfl
@[simp] theorem State.setEd_hid (v : BitVec 32) (s : State) : (s.setEd v).hid = s.hid := rfl
@[simp] theorem State.setEd_mem (v : BitVec 32) (s : State) : (s.setEd v).mem = s.mem := rfl
@[simp] theorem State.setEd_pmem (v : BitVec 32) (s : State) : (s.setEd v).pmem = s.pmem := rfl
@[simp] theorem State.setEd_platform (v : BitVec 32) (s : State) : (s.setEd v).platform = s.platform := rfl
@[simp] theorem State.setEd_pins (v : BitVec 32) (s : State) : (s.setEd v).pins = s.pins := rfl
@[simp] theorem State.setEd_script (v : BitVec 32) (s : State) : (s.setEd v).script = s.script := rfl
@[simp] theorem State.setEd_events (v : BitVec 32) (s : State) : (s.setEd v).events = s.events := rfl
@[simp] theorem State.setEd_draws (v : BitVec 32) (s : State) : (s.setEd v).draws = s.draws := rfl
@[simp] theorem State.setEd_stores (v : BitVec 32) (s : State) : (s.setEd v).stores = s.stores := rfl

/-! ### State.setK -/

@[simp] theorem State.setK_a (v : Word) (s : State) : (s.setK v).a = s.a := rfl
@[simp] theorem State.setK_b (v : Word) (s : State) : (s.setK v).b = s.b := rfl
@[simp] theorem State.setK_e (v : Word) (s : State) : (s.setK v).e = s.e := rfl
@[simp] theorem State.setK_ix (v : Word) (s : State) : (s.setK v).ix = s.ix := rfl
@[simp] theorem State.setK_iy (v : Word) (s : State) : (s.setK v).iy = s.iy := rfl
@[simp] theorem State.setK_iz (v : Word) (s : State) : (s.setK v).iz = s.iz := rfl
@[simp] theorem State.setK_sp (v : Word) (s : State) : (s.setK v).sp = s.sp := rfl
@[simp] theorem State.setK_ek (v : Word) (s : State) : (s.setK v).ek = v.extractLsb' 12 4 := rfl
@[simp] theorem State.setK_xk (v : Word) (s : State) : (s.setK v).xk = v.extractLsb' 8 4 := rfl
@[simp] theorem State.setK_yk (v : Word) (s : State) : (s.setK v).yk = v.extractLsb' 4 4 := rfl
@[simp] theorem State.setK_zk (v : Word) (s : State) : (s.setK v).zk = v.extractLsb' 0 4 := rfl
@[simp] theorem State.setK_sk (v : Word) (s : State) : (s.setK v).sk = s.sk := rfl
@[simp] theorem State.setK_pc (v : Word) (s : State) : (s.setK v).pc = s.pc := rfl
@[simp] theorem State.setK_ccr (v : Word) (s : State) : (s.setK v).ccr = s.ccr := rfl
@[simp] theorem State.setK_mac (v : Word) (s : State) : (s.setK v).mac = s.mac := rfl
@[simp] theorem State.setK_run (v : Word) (s : State) : (s.setK v).run = s.run := rfl
@[simp] theorem State.setK_hid (v : Word) (s : State) : (s.setK v).hid = s.hid := rfl
@[simp] theorem State.setK_mem (v : Word) (s : State) : (s.setK v).mem = s.mem := rfl
@[simp] theorem State.setK_pmem (v : Word) (s : State) : (s.setK v).pmem = s.pmem := rfl
@[simp] theorem State.setK_platform (v : Word) (s : State) : (s.setK v).platform = s.platform := rfl
@[simp] theorem State.setK_pins (v : Word) (s : State) : (s.setK v).pins = s.pins := rfl
@[simp] theorem State.setK_script (v : Word) (s : State) : (s.setK v).script = s.script := rfl
@[simp] theorem State.setK_events (v : Word) (s : State) : (s.setK v).events = s.events := rfl
@[simp] theorem State.setK_draws (v : Word) (s : State) : (s.setK v).draws = s.draws := rfl
@[simp] theorem State.setK_stores (v : Word) (s : State) : (s.setK v).stores = s.stores := rfl

/-! ### State.setSkSp -/

@[simp] theorem State.setSkSp_a (v : Addr) (s : State) : (s.setSkSp v).a = s.a := rfl
@[simp] theorem State.setSkSp_b (v : Addr) (s : State) : (s.setSkSp v).b = s.b := rfl
@[simp] theorem State.setSkSp_e (v : Addr) (s : State) : (s.setSkSp v).e = s.e := rfl
@[simp] theorem State.setSkSp_ix (v : Addr) (s : State) : (s.setSkSp v).ix = s.ix := rfl
@[simp] theorem State.setSkSp_iy (v : Addr) (s : State) : (s.setSkSp v).iy = s.iy := rfl
@[simp] theorem State.setSkSp_iz (v : Addr) (s : State) : (s.setSkSp v).iz = s.iz := rfl
@[simp] theorem State.setSkSp_sp (v : Addr) (s : State) : (s.setSkSp v).sp = offset v := rfl
@[simp] theorem State.setSkSp_ek (v : Addr) (s : State) : (s.setSkSp v).ek = s.ek := rfl
@[simp] theorem State.setSkSp_xk (v : Addr) (s : State) : (s.setSkSp v).xk = s.xk := rfl
@[simp] theorem State.setSkSp_yk (v : Addr) (s : State) : (s.setSkSp v).yk = s.yk := rfl
@[simp] theorem State.setSkSp_zk (v : Addr) (s : State) : (s.setSkSp v).zk = s.zk := rfl
@[simp] theorem State.setSkSp_sk (v : Addr) (s : State) : (s.setSkSp v).sk = bank v := rfl
@[simp] theorem State.setSkSp_pc (v : Addr) (s : State) : (s.setSkSp v).pc = s.pc := rfl
@[simp] theorem State.setSkSp_ccr (v : Addr) (s : State) : (s.setSkSp v).ccr = s.ccr := rfl
@[simp] theorem State.setSkSp_mac (v : Addr) (s : State) : (s.setSkSp v).mac = s.mac := rfl
@[simp] theorem State.setSkSp_run (v : Addr) (s : State) : (s.setSkSp v).run = s.run := rfl
@[simp] theorem State.setSkSp_hid (v : Addr) (s : State) : (s.setSkSp v).hid = s.hid := rfl
@[simp] theorem State.setSkSp_mem (v : Addr) (s : State) : (s.setSkSp v).mem = s.mem := rfl
@[simp] theorem State.setSkSp_pmem (v : Addr) (s : State) : (s.setSkSp v).pmem = s.pmem := rfl
@[simp] theorem State.setSkSp_platform (v : Addr) (s : State) : (s.setSkSp v).platform = s.platform := rfl
@[simp] theorem State.setSkSp_pins (v : Addr) (s : State) : (s.setSkSp v).pins = s.pins := rfl
@[simp] theorem State.setSkSp_script (v : Addr) (s : State) : (s.setSkSp v).script = s.script := rfl
@[simp] theorem State.setSkSp_events (v : Addr) (s : State) : (s.setSkSp v).events = s.events := rfl
@[simp] theorem State.setSkSp_draws (v : Addr) (s : State) : (s.setSkSp v).draws = s.draws := rfl
@[simp] theorem State.setSkSp_stores (v : Addr) (s : State) : (s.setSkSp v).stores = s.stores := rfl

/-! ### State.advance -/

@[simp] theorem State.advance_a (v : Addr) (s : State) : (s.advance v).a = s.a := rfl
@[simp] theorem State.advance_b (v : Addr) (s : State) : (s.advance v).b = s.b := rfl
@[simp] theorem State.advance_e (v : Addr) (s : State) : (s.advance v).e = s.e := rfl
@[simp] theorem State.advance_ix (v : Addr) (s : State) : (s.advance v).ix = s.ix := rfl
@[simp] theorem State.advance_iy (v : Addr) (s : State) : (s.advance v).iy = s.iy := rfl
@[simp] theorem State.advance_iz (v : Addr) (s : State) : (s.advance v).iz = s.iz := rfl
@[simp] theorem State.advance_sp (v : Addr) (s : State) : (s.advance v).sp = s.sp := rfl
@[simp] theorem State.advance_ek (v : Addr) (s : State) : (s.advance v).ek = s.ek := rfl
@[simp] theorem State.advance_xk (v : Addr) (s : State) : (s.advance v).xk = s.xk := rfl
@[simp] theorem State.advance_yk (v : Addr) (s : State) : (s.advance v).yk = s.yk := rfl
@[simp] theorem State.advance_zk (v : Addr) (s : State) : (s.advance v).zk = s.zk := rfl
@[simp] theorem State.advance_sk (v : Addr) (s : State) : (s.advance v).sk = s.sk := rfl
@[simp] theorem State.advance_pc (v : Addr) (s : State) : (s.advance v).pc = s.pc + v := rfl
@[simp] theorem State.advance_ccr (v : Addr) (s : State) : (s.advance v).ccr = s.ccr := rfl
@[simp] theorem State.advance_mac (v : Addr) (s : State) : (s.advance v).mac = s.mac := rfl
@[simp] theorem State.advance_run (v : Addr) (s : State) : (s.advance v).run = s.run := rfl
@[simp] theorem State.advance_hid (v : Addr) (s : State) : (s.advance v).hid = s.hid := rfl
@[simp] theorem State.advance_mem (v : Addr) (s : State) : (s.advance v).mem = s.mem := rfl
@[simp] theorem State.advance_pmem (v : Addr) (s : State) : (s.advance v).pmem = s.pmem := rfl
@[simp] theorem State.advance_platform (v : Addr) (s : State) : (s.advance v).platform = s.platform := rfl
@[simp] theorem State.advance_pins (v : Addr) (s : State) : (s.advance v).pins = s.pins := rfl
@[simp] theorem State.advance_script (v : Addr) (s : State) : (s.advance v).script = s.script := rfl
@[simp] theorem State.advance_events (v : Addr) (s : State) : (s.advance v).events = s.events := rfl
@[simp] theorem State.advance_draws (v : Addr) (s : State) : (s.advance v).draws = s.draws := rfl
@[simp] theorem State.advance_stores (v : Addr) (s : State) : (s.advance v).stores = s.stores := rfl

/-! ### State.jumpTo -/

@[simp] theorem State.jumpTo_a (v : Addr) (s : State) : (s.jumpTo v).a = s.a := rfl
@[simp] theorem State.jumpTo_b (v : Addr) (s : State) : (s.jumpTo v).b = s.b := rfl
@[simp] theorem State.jumpTo_e (v : Addr) (s : State) : (s.jumpTo v).e = s.e := rfl
@[simp] theorem State.jumpTo_ix (v : Addr) (s : State) : (s.jumpTo v).ix = s.ix := rfl
@[simp] theorem State.jumpTo_iy (v : Addr) (s : State) : (s.jumpTo v).iy = s.iy := rfl
@[simp] theorem State.jumpTo_iz (v : Addr) (s : State) : (s.jumpTo v).iz = s.iz := rfl
@[simp] theorem State.jumpTo_sp (v : Addr) (s : State) : (s.jumpTo v).sp = s.sp := rfl
@[simp] theorem State.jumpTo_ek (v : Addr) (s : State) : (s.jumpTo v).ek = s.ek := rfl
@[simp] theorem State.jumpTo_xk (v : Addr) (s : State) : (s.jumpTo v).xk = s.xk := rfl
@[simp] theorem State.jumpTo_yk (v : Addr) (s : State) : (s.jumpTo v).yk = s.yk := rfl
@[simp] theorem State.jumpTo_zk (v : Addr) (s : State) : (s.jumpTo v).zk = s.zk := rfl
@[simp] theorem State.jumpTo_sk (v : Addr) (s : State) : (s.jumpTo v).sk = s.sk := rfl
@[simp] theorem State.jumpTo_pc (v : Addr) (s : State) : (s.jumpTo v).pc = even20 v := rfl
@[simp] theorem State.jumpTo_ccr (v : Addr) (s : State) : (s.jumpTo v).ccr = s.ccr := rfl
@[simp] theorem State.jumpTo_mac (v : Addr) (s : State) : (s.jumpTo v).mac = s.mac := rfl
@[simp] theorem State.jumpTo_run (v : Addr) (s : State) : (s.jumpTo v).run = s.run := rfl
@[simp] theorem State.jumpTo_hid (v : Addr) (s : State) : (s.jumpTo v).hid = s.hid := rfl
@[simp] theorem State.jumpTo_mem (v : Addr) (s : State) : (s.jumpTo v).mem = s.mem := rfl
@[simp] theorem State.jumpTo_pmem (v : Addr) (s : State) : (s.jumpTo v).pmem = s.pmem := rfl
@[simp] theorem State.jumpTo_platform (v : Addr) (s : State) : (s.jumpTo v).platform = s.platform := rfl
@[simp] theorem State.jumpTo_pins (v : Addr) (s : State) : (s.jumpTo v).pins = s.pins := rfl
@[simp] theorem State.jumpTo_script (v : Addr) (s : State) : (s.jumpTo v).script = s.script := rfl
@[simp] theorem State.jumpTo_events (v : Addr) (s : State) : (s.jumpTo v).events = s.events := rfl
@[simp] theorem State.jumpTo_draws (v : Addr) (s : State) : (s.jumpTo v).draws = s.draws := rfl
@[simp] theorem State.jumpTo_stores (v : Addr) (s : State) : (s.jumpTo v).stores = s.stores := rfl

/-! ### State.bump -/

@[simp] theorem State.bump_a (s : State) : (s.bump).a = s.a := rfl
@[simp] theorem State.bump_b (s : State) : (s.bump).b = s.b := rfl
@[simp] theorem State.bump_e (s : State) : (s.bump).e = s.e := rfl
@[simp] theorem State.bump_ix (s : State) : (s.bump).ix = s.ix := rfl
@[simp] theorem State.bump_iy (s : State) : (s.bump).iy = s.iy := rfl
@[simp] theorem State.bump_iz (s : State) : (s.bump).iz = s.iz := rfl
@[simp] theorem State.bump_sp (s : State) : (s.bump).sp = s.sp := rfl
@[simp] theorem State.bump_ek (s : State) : (s.bump).ek = s.ek := rfl
@[simp] theorem State.bump_xk (s : State) : (s.bump).xk = s.xk := rfl
@[simp] theorem State.bump_yk (s : State) : (s.bump).yk = s.yk := rfl
@[simp] theorem State.bump_zk (s : State) : (s.bump).zk = s.zk := rfl
@[simp] theorem State.bump_sk (s : State) : (s.bump).sk = s.sk := rfl
@[simp] theorem State.bump_pc (s : State) : (s.bump).pc = s.pc := rfl
@[simp] theorem State.bump_ccr (s : State) : (s.bump).ccr = s.ccr := rfl
@[simp] theorem State.bump_mac (s : State) : (s.bump).mac = s.mac := rfl
@[simp] theorem State.bump_run (s : State) : (s.bump).run = s.run := rfl
@[simp] theorem State.bump_hid (s : State) : (s.bump).hid = s.hid := rfl
@[simp] theorem State.bump_mem (s : State) : (s.bump).mem = s.mem := rfl
@[simp] theorem State.bump_pmem (s : State) : (s.bump).pmem = s.pmem := rfl
@[simp] theorem State.bump_platform (s : State) : (s.bump).platform = s.platform := rfl
@[simp] theorem State.bump_pins (s : State) : (s.bump).pins = s.pins := rfl
@[simp] theorem State.bump_script (s : State) : (s.bump).script = s.script := rfl
@[simp] theorem State.bump_events (s : State) : (s.bump).events = s.events := rfl
@[simp] theorem State.bump_draws (s : State) : (s.bump).draws = s.draws + 1 := rfl
@[simp] theorem State.bump_stores (s : State) : (s.bump).stores = s.stores := rfl

/-! ### State.setFlags -/

@[simp] theorem State.setFlags_a (c : Ccr) (s : State) : (s.setFlags c).a = s.a := rfl
@[simp] theorem State.setFlags_b (c : Ccr) (s : State) : (s.setFlags c).b = s.b := rfl
@[simp] theorem State.setFlags_e (c : Ccr) (s : State) : (s.setFlags c).e = s.e := rfl
@[simp] theorem State.setFlags_ix (c : Ccr) (s : State) : (s.setFlags c).ix = s.ix := rfl
@[simp] theorem State.setFlags_iy (c : Ccr) (s : State) : (s.setFlags c).iy = s.iy := rfl
@[simp] theorem State.setFlags_iz (c : Ccr) (s : State) : (s.setFlags c).iz = s.iz := rfl
@[simp] theorem State.setFlags_sp (c : Ccr) (s : State) : (s.setFlags c).sp = s.sp := rfl
@[simp] theorem State.setFlags_ek (c : Ccr) (s : State) : (s.setFlags c).ek = s.ek := rfl
@[simp] theorem State.setFlags_xk (c : Ccr) (s : State) : (s.setFlags c).xk = s.xk := rfl
@[simp] theorem State.setFlags_yk (c : Ccr) (s : State) : (s.setFlags c).yk = s.yk := rfl
@[simp] theorem State.setFlags_zk (c : Ccr) (s : State) : (s.setFlags c).zk = s.zk := rfl
@[simp] theorem State.setFlags_sk (c : Ccr) (s : State) : (s.setFlags c).sk = s.sk := rfl
@[simp] theorem State.setFlags_pc (c : Ccr) (s : State) : (s.setFlags c).pc = s.pc := rfl
@[simp] theorem State.setFlags_ccr (c : Ccr) (s : State) : (s.setFlags c).ccr = c := rfl
@[simp] theorem State.setFlags_mac (c : Ccr) (s : State) : (s.setFlags c).mac = s.mac := rfl
@[simp] theorem State.setFlags_run (c : Ccr) (s : State) : (s.setFlags c).run = s.run := rfl
@[simp] theorem State.setFlags_hid (c : Ccr) (s : State) : (s.setFlags c).hid = s.hid := rfl
@[simp] theorem State.setFlags_mem (c : Ccr) (s : State) : (s.setFlags c).mem = s.mem := rfl
@[simp] theorem State.setFlags_pmem (c : Ccr) (s : State) : (s.setFlags c).pmem = s.pmem := rfl
@[simp] theorem State.setFlags_platform (c : Ccr) (s : State) : (s.setFlags c).platform = s.platform := rfl
@[simp] theorem State.setFlags_pins (c : Ccr) (s : State) : (s.setFlags c).pins = s.pins := rfl
@[simp] theorem State.setFlags_script (c : Ccr) (s : State) : (s.setFlags c).script = s.script := rfl
@[simp] theorem State.setFlags_events (c : Ccr) (s : State) : (s.setFlags c).events = s.events := rfl
@[simp] theorem State.setFlags_draws (c : Ccr) (s : State) : (s.setFlags c).draws = s.draws := rfl
@[simp] theorem State.setFlags_stores (c : Ccr) (s : State) : (s.setFlags c).stores = s.stores := rfl

/-! ### State.writeCcr -/

@[simp] theorem State.writeCcr_a (c : Ccr) (s : State) : (s.writeCcr c).a = s.a := rfl
@[simp] theorem State.writeCcr_b (c : Ccr) (s : State) : (s.writeCcr c).b = s.b := rfl
@[simp] theorem State.writeCcr_e (c : Ccr) (s : State) : (s.writeCcr c).e = s.e := rfl
@[simp] theorem State.writeCcr_ix (c : Ccr) (s : State) : (s.writeCcr c).ix = s.ix := rfl
@[simp] theorem State.writeCcr_iy (c : Ccr) (s : State) : (s.writeCcr c).iy = s.iy := rfl
@[simp] theorem State.writeCcr_iz (c : Ccr) (s : State) : (s.writeCcr c).iz = s.iz := rfl
@[simp] theorem State.writeCcr_sp (c : Ccr) (s : State) : (s.writeCcr c).sp = s.sp := rfl
@[simp] theorem State.writeCcr_ek (c : Ccr) (s : State) : (s.writeCcr c).ek = s.ek := rfl
@[simp] theorem State.writeCcr_xk (c : Ccr) (s : State) : (s.writeCcr c).xk = s.xk := rfl
@[simp] theorem State.writeCcr_yk (c : Ccr) (s : State) : (s.writeCcr c).yk = s.yk := rfl
@[simp] theorem State.writeCcr_zk (c : Ccr) (s : State) : (s.writeCcr c).zk = s.zk := rfl
@[simp] theorem State.writeCcr_sk (c : Ccr) (s : State) : (s.writeCcr c).sk = s.sk := rfl
@[simp] theorem State.writeCcr_pc (c : Ccr) (s : State) : (s.writeCcr c).pc = s.pc := rfl
@[simp] theorem State.writeCcr_ccr (c : Ccr) (s : State) : (s.writeCcr c).ccr = c := rfl
@[simp] theorem State.writeCcr_mac (c : Ccr) (s : State) : (s.writeCcr c).mac = s.mac := rfl
@[simp] theorem State.writeCcr_run (c : Ccr) (s : State) : (s.writeCcr c).run = s.run := rfl
@[simp] theorem State.writeCcr_mem (c : Ccr) (s : State) : (s.writeCcr c).mem = s.mem := rfl
@[simp] theorem State.writeCcr_pmem (c : Ccr) (s : State) : (s.writeCcr c).pmem = s.pmem := rfl
@[simp] theorem State.writeCcr_platform (c : Ccr) (s : State) : (s.writeCcr c).platform = s.platform := rfl
@[simp] theorem State.writeCcr_pins (c : Ccr) (s : State) : (s.writeCcr c).pins = s.pins := rfl
@[simp] theorem State.writeCcr_script (c : Ccr) (s : State) : (s.writeCcr c).script = s.script := rfl
@[simp] theorem State.writeCcr_events (c : Ccr) (s : State) : (s.writeCcr c).events = s.events := rfl
@[simp] theorem State.writeCcr_draws (c : Ccr) (s : State) : (s.writeCcr c).draws = s.draws := rfl
@[simp] theorem State.writeCcr_stores (c : Ccr) (s : State) : (s.writeCcr c).stores = s.stores := rfl

/-! ### State.setRun -/

@[simp] theorem State.setRun_a (r : RunState) (s : State) : (s.setRun r).a = s.a := rfl
@[simp] theorem State.setRun_b (r : RunState) (s : State) : (s.setRun r).b = s.b := rfl
@[simp] theorem State.setRun_e (r : RunState) (s : State) : (s.setRun r).e = s.e := rfl
@[simp] theorem State.setRun_ix (r : RunState) (s : State) : (s.setRun r).ix = s.ix := rfl
@[simp] theorem State.setRun_iy (r : RunState) (s : State) : (s.setRun r).iy = s.iy := rfl
@[simp] theorem State.setRun_iz (r : RunState) (s : State) : (s.setRun r).iz = s.iz := rfl
@[simp] theorem State.setRun_sp (r : RunState) (s : State) : (s.setRun r).sp = s.sp := rfl
@[simp] theorem State.setRun_ek (r : RunState) (s : State) : (s.setRun r).ek = s.ek := rfl
@[simp] theorem State.setRun_xk (r : RunState) (s : State) : (s.setRun r).xk = s.xk := rfl
@[simp] theorem State.setRun_yk (r : RunState) (s : State) : (s.setRun r).yk = s.yk := rfl
@[simp] theorem State.setRun_zk (r : RunState) (s : State) : (s.setRun r).zk = s.zk := rfl
@[simp] theorem State.setRun_sk (r : RunState) (s : State) : (s.setRun r).sk = s.sk := rfl
@[simp] theorem State.setRun_pc (r : RunState) (s : State) : (s.setRun r).pc = s.pc := rfl
@[simp] theorem State.setRun_ccr (r : RunState) (s : State) : (s.setRun r).ccr = s.ccr := rfl
@[simp] theorem State.setRun_mac (r : RunState) (s : State) : (s.setRun r).mac = s.mac := rfl
@[simp] theorem State.setRun_run (r : RunState) (s : State) : (s.setRun r).run = r := rfl
@[simp] theorem State.setRun_hid (r : RunState) (s : State) : (s.setRun r).hid = s.hid := rfl
@[simp] theorem State.setRun_mem (r : RunState) (s : State) : (s.setRun r).mem = s.mem := rfl
@[simp] theorem State.setRun_pmem (r : RunState) (s : State) : (s.setRun r).pmem = s.pmem := rfl
@[simp] theorem State.setRun_platform (r : RunState) (s : State) : (s.setRun r).platform = s.platform := rfl
@[simp] theorem State.setRun_pins (r : RunState) (s : State) : (s.setRun r).pins = s.pins := rfl
@[simp] theorem State.setRun_script (r : RunState) (s : State) : (s.setRun r).script = s.script := rfl
@[simp] theorem State.setRun_events (r : RunState) (s : State) : (s.setRun r).events = s.events := rfl
@[simp] theorem State.setRun_draws (r : RunState) (s : State) : (s.setRun r).draws = s.draws := rfl
@[simp] theorem State.setRun_stores (r : RunState) (s : State) : (s.setRun r).stores = s.stores := rfl

/-! ### State.beginHandler -/

@[simp] theorem State.beginHandler_a (v : Addr) (s : State) : (s.beginHandler v).a = s.a := rfl
@[simp] theorem State.beginHandler_b (v : Addr) (s : State) : (s.beginHandler v).b = s.b := rfl
@[simp] theorem State.beginHandler_e (v : Addr) (s : State) : (s.beginHandler v).e = s.e := rfl
@[simp] theorem State.beginHandler_ix (v : Addr) (s : State) : (s.beginHandler v).ix = s.ix := rfl
@[simp] theorem State.beginHandler_iy (v : Addr) (s : State) : (s.beginHandler v).iy = s.iy := rfl
@[simp] theorem State.beginHandler_iz (v : Addr) (s : State) : (s.beginHandler v).iz = s.iz := rfl
@[simp] theorem State.beginHandler_sp (v : Addr) (s : State) : (s.beginHandler v).sp = s.sp := rfl
@[simp] theorem State.beginHandler_ek (v : Addr) (s : State) : (s.beginHandler v).ek = s.ek := rfl
@[simp] theorem State.beginHandler_xk (v : Addr) (s : State) : (s.beginHandler v).xk = s.xk := rfl
@[simp] theorem State.beginHandler_yk (v : Addr) (s : State) : (s.beginHandler v).yk = s.yk := rfl
@[simp] theorem State.beginHandler_zk (v : Addr) (s : State) : (s.beginHandler v).zk = s.zk := rfl
@[simp] theorem State.beginHandler_sk (v : Addr) (s : State) : (s.beginHandler v).sk = s.sk := rfl
@[simp] theorem State.beginHandler_pc (v : Addr) (s : State) : (s.beginHandler v).pc = even20 v := rfl
@[simp] theorem State.beginHandler_ccr (v : Addr) (s : State) : (s.beginHandler v).ccr = s.ccr := rfl
@[simp] theorem State.beginHandler_mac (v : Addr) (s : State) : (s.beginHandler v).mac = s.mac := rfl
@[simp] theorem State.beginHandler_run (v : Addr) (s : State) : (s.beginHandler v).run = s.run := rfl
@[simp] theorem State.beginHandler_mem (v : Addr) (s : State) : (s.beginHandler v).mem = s.mem := rfl
@[simp] theorem State.beginHandler_pmem (v : Addr) (s : State) : (s.beginHandler v).pmem = s.pmem := rfl
@[simp] theorem State.beginHandler_platform (v : Addr) (s : State) : (s.beginHandler v).platform = s.platform := rfl
@[simp] theorem State.beginHandler_pins (v : Addr) (s : State) : (s.beginHandler v).pins = s.pins := rfl
@[simp] theorem State.beginHandler_script (v : Addr) (s : State) : (s.beginHandler v).script = s.script := rfl
@[simp] theorem State.beginHandler_events (v : Addr) (s : State) : (s.beginHandler v).events = s.events := rfl
@[simp] theorem State.beginHandler_draws (v : Addr) (s : State) : (s.beginHandler v).draws = s.draws := rfl
@[simp] theorem State.beginHandler_stores (v : Addr) (s : State) : (s.beginHandler v).stores = s.stores := rfl

/-! ### State.inhibit -/

@[simp] theorem State.inhibit_a (s : State) : (s.inhibit).a = s.a := rfl
@[simp] theorem State.inhibit_b (s : State) : (s.inhibit).b = s.b := rfl
@[simp] theorem State.inhibit_e (s : State) : (s.inhibit).e = s.e := rfl
@[simp] theorem State.inhibit_ix (s : State) : (s.inhibit).ix = s.ix := rfl
@[simp] theorem State.inhibit_iy (s : State) : (s.inhibit).iy = s.iy := rfl
@[simp] theorem State.inhibit_iz (s : State) : (s.inhibit).iz = s.iz := rfl
@[simp] theorem State.inhibit_sp (s : State) : (s.inhibit).sp = s.sp := rfl
@[simp] theorem State.inhibit_ek (s : State) : (s.inhibit).ek = s.ek := rfl
@[simp] theorem State.inhibit_xk (s : State) : (s.inhibit).xk = s.xk := rfl
@[simp] theorem State.inhibit_yk (s : State) : (s.inhibit).yk = s.yk := rfl
@[simp] theorem State.inhibit_zk (s : State) : (s.inhibit).zk = s.zk := rfl
@[simp] theorem State.inhibit_sk (s : State) : (s.inhibit).sk = s.sk := rfl
@[simp] theorem State.inhibit_pc (s : State) : (s.inhibit).pc = s.pc := rfl
@[simp] theorem State.inhibit_ccr (s : State) : (s.inhibit).ccr = s.ccr := rfl
@[simp] theorem State.inhibit_mac (s : State) : (s.inhibit).mac = s.mac := rfl
@[simp] theorem State.inhibit_run (s : State) : (s.inhibit).run = s.run := rfl
@[simp] theorem State.inhibit_mem (s : State) : (s.inhibit).mem = s.mem := rfl
@[simp] theorem State.inhibit_pmem (s : State) : (s.inhibit).pmem = s.pmem := rfl
@[simp] theorem State.inhibit_platform (s : State) : (s.inhibit).platform = s.platform := rfl
@[simp] theorem State.inhibit_pins (s : State) : (s.inhibit).pins = s.pins := rfl
@[simp] theorem State.inhibit_script (s : State) : (s.inhibit).script = s.script := rfl
@[simp] theorem State.inhibit_events (s : State) : (s.inhibit).events = s.events := rfl
@[simp] theorem State.inhibit_draws (s : State) : (s.inhibit).draws = s.draws := rfl
@[simp] theorem State.inhibit_stores (s : State) : (s.inhibit).stores = s.stores := rfl

@[simp] theorem State.writeCcr_hid (c : Ccr) (s : State) :
    (s.writeCcr c).hid = { s.hid with irq7Pending :=
      s.hid.irq7Pending || ((s.ccr.ip == 7#3) && !(c.ip == 7#3) && s.pins.irq.getLsbD 7) } := rfl
@[simp] theorem State.beginHandler_hid (v : Addr) (s : State) :
    (s.beginHandler v).hid = { s.hid with irqInhibit := true } := rfl
@[simp] theorem State.inhibit_hid (s : State) : s.inhibit.hid = { s.hid with irqInhibit := true } := rfl

/-! ### setIndex -/

@[simp] theorem State.setIndex_a (r : Idx) (v : Word) (s : State) : (s.setIndex r v).a = s.a := by cases r <;> rfl
@[simp] theorem State.setIndex_b (r : Idx) (v : Word) (s : State) : (s.setIndex r v).b = s.b := by cases r <;> rfl
@[simp] theorem State.setIndex_e (r : Idx) (v : Word) (s : State) : (s.setIndex r v).e = s.e := by cases r <;> rfl
@[simp] theorem State.setIndex_sp (r : Idx) (v : Word) (s : State) : (s.setIndex r v).sp = s.sp := by cases r <;> rfl
@[simp] theorem State.setIndex_ek (r : Idx) (v : Word) (s : State) : (s.setIndex r v).ek = s.ek := by cases r <;> rfl
@[simp] theorem State.setIndex_xk (r : Idx) (v : Word) (s : State) : (s.setIndex r v).xk = s.xk := by cases r <;> rfl
@[simp] theorem State.setIndex_yk (r : Idx) (v : Word) (s : State) : (s.setIndex r v).yk = s.yk := by cases r <;> rfl
@[simp] theorem State.setIndex_zk (r : Idx) (v : Word) (s : State) : (s.setIndex r v).zk = s.zk := by cases r <;> rfl
@[simp] theorem State.setIndex_sk (r : Idx) (v : Word) (s : State) : (s.setIndex r v).sk = s.sk := by cases r <;> rfl
@[simp] theorem State.setIndex_pc (r : Idx) (v : Word) (s : State) : (s.setIndex r v).pc = s.pc := by cases r <;> rfl
@[simp] theorem State.setIndex_ccr (r : Idx) (v : Word) (s : State) : (s.setIndex r v).ccr = s.ccr := by cases r <;> rfl
@[simp] theorem State.setIndex_mac (r : Idx) (v : Word) (s : State) : (s.setIndex r v).mac = s.mac := by cases r <;> rfl
@[simp] theorem State.setIndex_run (r : Idx) (v : Word) (s : State) : (s.setIndex r v).run = s.run := by cases r <;> rfl
@[simp] theorem State.setIndex_hid (r : Idx) (v : Word) (s : State) : (s.setIndex r v).hid = s.hid := by cases r <;> rfl
@[simp] theorem State.setIndex_mem (r : Idx) (v : Word) (s : State) : (s.setIndex r v).mem = s.mem := by cases r <;> rfl
@[simp] theorem State.setIndex_pmem (r : Idx) (v : Word) (s : State) : (s.setIndex r v).pmem = s.pmem := by cases r <;> rfl
@[simp] theorem State.setIndex_platform (r : Idx) (v : Word) (s : State) : (s.setIndex r v).platform = s.platform := by cases r <;> rfl
@[simp] theorem State.setIndex_pins (r : Idx) (v : Word) (s : State) : (s.setIndex r v).pins = s.pins := by cases r <;> rfl
@[simp] theorem State.setIndex_script (r : Idx) (v : Word) (s : State) : (s.setIndex r v).script = s.script := by cases r <;> rfl
@[simp] theorem State.setIndex_events (r : Idx) (v : Word) (s : State) : (s.setIndex r v).events = s.events := by cases r <;> rfl
@[simp] theorem State.setIndex_draws (r : Idx) (v : Word) (s : State) : (s.setIndex r v).draws = s.draws := by cases r <;> rfl
@[simp] theorem State.setIndex_stores (r : Idx) (v : Word) (s : State) : (s.setIndex r v).stores = s.stores := by cases r <;> rfl

/-! ### setExt -/

@[simp] theorem State.setExt_a (r : Idx) (v : Nibble) (s : State) : (s.setExt r v).a = s.a := by cases r <;> rfl
@[simp] theorem State.setExt_b (r : Idx) (v : Nibble) (s : State) : (s.setExt r v).b = s.b := by cases r <;> rfl
@[simp] theorem State.setExt_e (r : Idx) (v : Nibble) (s : State) : (s.setExt r v).e = s.e := by cases r <;> rfl
@[simp] theorem State.setExt_ix (r : Idx) (v : Nibble) (s : State) : (s.setExt r v).ix = s.ix := by cases r <;> rfl
@[simp] theorem State.setExt_iy (r : Idx) (v : Nibble) (s : State) : (s.setExt r v).iy = s.iy := by cases r <;> rfl
@[simp] theorem State.setExt_iz (r : Idx) (v : Nibble) (s : State) : (s.setExt r v).iz = s.iz := by cases r <;> rfl
@[simp] theorem State.setExt_sp (r : Idx) (v : Nibble) (s : State) : (s.setExt r v).sp = s.sp := by cases r <;> rfl
@[simp] theorem State.setExt_ek (r : Idx) (v : Nibble) (s : State) : (s.setExt r v).ek = s.ek := by cases r <;> rfl
@[simp] theorem State.setExt_sk (r : Idx) (v : Nibble) (s : State) : (s.setExt r v).sk = s.sk := by cases r <;> rfl
@[simp] theorem State.setExt_pc (r : Idx) (v : Nibble) (s : State) : (s.setExt r v).pc = s.pc := by cases r <;> rfl
@[simp] theorem State.setExt_ccr (r : Idx) (v : Nibble) (s : State) : (s.setExt r v).ccr = s.ccr := by cases r <;> rfl
@[simp] theorem State.setExt_mac (r : Idx) (v : Nibble) (s : State) : (s.setExt r v).mac = s.mac := by cases r <;> rfl
@[simp] theorem State.setExt_run (r : Idx) (v : Nibble) (s : State) : (s.setExt r v).run = s.run := by cases r <;> rfl
@[simp] theorem State.setExt_hid (r : Idx) (v : Nibble) (s : State) : (s.setExt r v).hid = s.hid := by cases r <;> rfl
@[simp] theorem State.setExt_mem (r : Idx) (v : Nibble) (s : State) : (s.setExt r v).mem = s.mem := by cases r <;> rfl
@[simp] theorem State.setExt_pmem (r : Idx) (v : Nibble) (s : State) : (s.setExt r v).pmem = s.pmem := by cases r <;> rfl
@[simp] theorem State.setExt_platform (r : Idx) (v : Nibble) (s : State) : (s.setExt r v).platform = s.platform := by cases r <;> rfl
@[simp] theorem State.setExt_pins (r : Idx) (v : Nibble) (s : State) : (s.setExt r v).pins = s.pins := by cases r <;> rfl
@[simp] theorem State.setExt_script (r : Idx) (v : Nibble) (s : State) : (s.setExt r v).script = s.script := by cases r <;> rfl
@[simp] theorem State.setExt_events (r : Idx) (v : Nibble) (s : State) : (s.setExt r v).events = s.events := by cases r <;> rfl
@[simp] theorem State.setExt_draws (r : Idx) (v : Nibble) (s : State) : (s.setExt r v).draws = s.draws := by cases r <;> rfl
@[simp] theorem State.setExt_stores (r : Idx) (v : Nibble) (s : State) : (s.setExt r v).stores = s.stores := by cases r <;> rfl

/-! ### setPointer -/

@[simp] theorem State.setPointer_a (r : Idx) (v : Addr) (s : State) : (s.setPointer r v).a = s.a := by cases r <;> rfl
@[simp] theorem State.setPointer_b (r : Idx) (v : Addr) (s : State) : (s.setPointer r v).b = s.b := by cases r <;> rfl
@[simp] theorem State.setPointer_e (r : Idx) (v : Addr) (s : State) : (s.setPointer r v).e = s.e := by cases r <;> rfl
@[simp] theorem State.setPointer_sp (r : Idx) (v : Addr) (s : State) : (s.setPointer r v).sp = s.sp := by cases r <;> rfl
@[simp] theorem State.setPointer_ek (r : Idx) (v : Addr) (s : State) : (s.setPointer r v).ek = s.ek := by cases r <;> rfl
@[simp] theorem State.setPointer_sk (r : Idx) (v : Addr) (s : State) : (s.setPointer r v).sk = s.sk := by cases r <;> rfl
@[simp] theorem State.setPointer_pc (r : Idx) (v : Addr) (s : State) : (s.setPointer r v).pc = s.pc := by cases r <;> rfl
@[simp] theorem State.setPointer_ccr (r : Idx) (v : Addr) (s : State) : (s.setPointer r v).ccr = s.ccr := by cases r <;> rfl
@[simp] theorem State.setPointer_mac (r : Idx) (v : Addr) (s : State) : (s.setPointer r v).mac = s.mac := by cases r <;> rfl
@[simp] theorem State.setPointer_run (r : Idx) (v : Addr) (s : State) : (s.setPointer r v).run = s.run := by cases r <;> rfl
@[simp] theorem State.setPointer_hid (r : Idx) (v : Addr) (s : State) : (s.setPointer r v).hid = s.hid := by cases r <;> rfl
@[simp] theorem State.setPointer_mem (r : Idx) (v : Addr) (s : State) : (s.setPointer r v).mem = s.mem := by cases r <;> rfl
@[simp] theorem State.setPointer_pmem (r : Idx) (v : Addr) (s : State) : (s.setPointer r v).pmem = s.pmem := by cases r <;> rfl
@[simp] theorem State.setPointer_platform (r : Idx) (v : Addr) (s : State) : (s.setPointer r v).platform = s.platform := by cases r <;> rfl
@[simp] theorem State.setPointer_pins (r : Idx) (v : Addr) (s : State) : (s.setPointer r v).pins = s.pins := by cases r <;> rfl
@[simp] theorem State.setPointer_script (r : Idx) (v : Addr) (s : State) : (s.setPointer r v).script = s.script := by cases r <;> rfl
@[simp] theorem State.setPointer_events (r : Idx) (v : Addr) (s : State) : (s.setPointer r v).events = s.events := by cases r <;> rfl
@[simp] theorem State.setPointer_draws (r : Idx) (v : Addr) (s : State) : (s.setPointer r v).draws = s.draws := by cases r <;> rfl
@[simp] theorem State.setPointer_stores (r : Idx) (v : Addr) (s : State) : (s.setPointer r v).stores = s.stores := by cases r <;> rfl

/-! ### setR8 -/

@[simp] theorem setR8_e (r : R8) (v : Byte) (s : State) : (setR8 r v s).e = s.e := by cases r <;> rfl
@[simp] theorem setR8_ix (r : R8) (v : Byte) (s : State) : (setR8 r v s).ix = s.ix := by cases r <;> rfl
@[simp] theorem setR8_iy (r : R8) (v : Byte) (s : State) : (setR8 r v s).iy = s.iy := by cases r <;> rfl
@[simp] theorem setR8_iz (r : R8) (v : Byte) (s : State) : (setR8 r v s).iz = s.iz := by cases r <;> rfl
@[simp] theorem setR8_sp (r : R8) (v : Byte) (s : State) : (setR8 r v s).sp = s.sp := by cases r <;> rfl
@[simp] theorem setR8_ek (r : R8) (v : Byte) (s : State) : (setR8 r v s).ek = s.ek := by cases r <;> rfl
@[simp] theorem setR8_xk (r : R8) (v : Byte) (s : State) : (setR8 r v s).xk = s.xk := by cases r <;> rfl
@[simp] theorem setR8_yk (r : R8) (v : Byte) (s : State) : (setR8 r v s).yk = s.yk := by cases r <;> rfl
@[simp] theorem setR8_zk (r : R8) (v : Byte) (s : State) : (setR8 r v s).zk = s.zk := by cases r <;> rfl
@[simp] theorem setR8_sk (r : R8) (v : Byte) (s : State) : (setR8 r v s).sk = s.sk := by cases r <;> rfl
@[simp] theorem setR8_pc (r : R8) (v : Byte) (s : State) : (setR8 r v s).pc = s.pc := by cases r <;> rfl
@[simp] theorem setR8_ccr (r : R8) (v : Byte) (s : State) : (setR8 r v s).ccr = s.ccr := by cases r <;> rfl
@[simp] theorem setR8_mac (r : R8) (v : Byte) (s : State) : (setR8 r v s).mac = s.mac := by cases r <;> rfl
@[simp] theorem setR8_run (r : R8) (v : Byte) (s : State) : (setR8 r v s).run = s.run := by cases r <;> rfl
@[simp] theorem setR8_hid (r : R8) (v : Byte) (s : State) : (setR8 r v s).hid = s.hid := by cases r <;> rfl
@[simp] theorem setR8_mem (r : R8) (v : Byte) (s : State) : (setR8 r v s).mem = s.mem := by cases r <;> rfl
@[simp] theorem setR8_pmem (r : R8) (v : Byte) (s : State) : (setR8 r v s).pmem = s.pmem := by cases r <;> rfl
@[simp] theorem setR8_platform (r : R8) (v : Byte) (s : State) : (setR8 r v s).platform = s.platform := by cases r <;> rfl
@[simp] theorem setR8_pins (r : R8) (v : Byte) (s : State) : (setR8 r v s).pins = s.pins := by cases r <;> rfl
@[simp] theorem setR8_script (r : R8) (v : Byte) (s : State) : (setR8 r v s).script = s.script := by cases r <;> rfl
@[simp] theorem setR8_events (r : R8) (v : Byte) (s : State) : (setR8 r v s).events = s.events := by cases r <;> rfl
@[simp] theorem setR8_draws (r : R8) (v : Byte) (s : State) : (setR8 r v s).draws = s.draws := by cases r <;> rfl
@[simp] theorem setR8_stores (r : R8) (v : Byte) (s : State) : (setR8 r v s).stores = s.stores := by cases r <;> rfl

/-! ### setR16 -/

@[simp] theorem setR16_ek (r : R16) (v : Word) (s : State) : (setR16 r v s).ek = s.ek := by cases r <;> rfl
@[simp] theorem setR16_xk (r : R16) (v : Word) (s : State) : (setR16 r v s).xk = s.xk := by cases r <;> rfl
@[simp] theorem setR16_yk (r : R16) (v : Word) (s : State) : (setR16 r v s).yk = s.yk := by cases r <;> rfl
@[simp] theorem setR16_zk (r : R16) (v : Word) (s : State) : (setR16 r v s).zk = s.zk := by cases r <;> rfl
@[simp] theorem setR16_sk (r : R16) (v : Word) (s : State) : (setR16 r v s).sk = s.sk := by cases r <;> rfl
@[simp] theorem setR16_pc (r : R16) (v : Word) (s : State) : (setR16 r v s).pc = s.pc := by cases r <;> rfl
@[simp] theorem setR16_ccr (r : R16) (v : Word) (s : State) : (setR16 r v s).ccr = s.ccr := by cases r <;> rfl
@[simp] theorem setR16_mac (r : R16) (v : Word) (s : State) : (setR16 r v s).mac = s.mac := by cases r <;> rfl
@[simp] theorem setR16_run (r : R16) (v : Word) (s : State) : (setR16 r v s).run = s.run := by cases r <;> rfl
@[simp] theorem setR16_hid (r : R16) (v : Word) (s : State) : (setR16 r v s).hid = s.hid := by cases r <;> rfl
@[simp] theorem setR16_mem (r : R16) (v : Word) (s : State) : (setR16 r v s).mem = s.mem := by cases r <;> rfl
@[simp] theorem setR16_pmem (r : R16) (v : Word) (s : State) : (setR16 r v s).pmem = s.pmem := by cases r <;> rfl
@[simp] theorem setR16_platform (r : R16) (v : Word) (s : State) : (setR16 r v s).platform = s.platform := by cases r <;> rfl
@[simp] theorem setR16_pins (r : R16) (v : Word) (s : State) : (setR16 r v s).pins = s.pins := by cases r <;> rfl
@[simp] theorem setR16_script (r : R16) (v : Word) (s : State) : (setR16 r v s).script = s.script := by cases r <;> rfl
@[simp] theorem setR16_events (r : R16) (v : Word) (s : State) : (setR16 r v s).events = s.events := by cases r <;> rfl
@[simp] theorem setR16_draws (r : R16) (v : Word) (s : State) : (setR16 r v s).draws = s.draws := by cases r <;> rfl
@[simp] theorem setR16_stores (r : R16) (v : Word) (s : State) : (setR16 r v s).stores = s.stores := by cases r <;> rfl

/-! ### A register by its name -/

@[simp] theorem State.index_setIndex (r : Idx) (v : Word) (s : State) : (s.setIndex r v).index r = v := by
  cases r <;> rfl
@[simp] theorem State.index_setExt (r q : Idx) (v : Nibble) (s : State) : (s.setExt r v).index q = s.index q := by
  cases r <;> cases q <;> rfl
@[simp] theorem State.ext_setExt (r : Idx) (v : Nibble) (s : State) : (s.setExt r v).ext r = v := by cases r <;> rfl
@[simp] theorem State.ext_setIndex (r q : Idx) (v : Word) (s : State) : (s.setIndex r v).ext q = s.ext q := by
  cases r <;> cases q <;> rfl
@[simp] theorem getR8_setR8 (r : R8) (v : Byte) (s : State) : getR8 r (setR8 r v s) = v := by cases r <;> rfl

/-- The bank and the offset of an address are the address. -/
theorem bank_append_offset (v : Addr) : bank v ++ offset v = v := by
  simp only [bank, offset]; exact BitVec.extractLsb'_append_extractLsb'_eq_extractLsb' (by rfl) |>.trans (by simp)

/-- The two bytes of a word are the word. -/
theorem hi_append_lo (v : Word) : hi v ++ lo v = v := by
  simp only [hi, lo]; exact BitVec.extractLsb'_append_extractLsb'_eq_extractLsb' (by rfl) |>.trans (by simp)

/-- Writing SK : SP and reading it back. -/
@[simp] theorem State.skSp_setSkSp (v : Addr) (s : State) : (s.setSkSp v).skSp = v := bank_append_offset v

/-- Writing D and reading it back. -/
@[simp] theorem State.d_setD (v : Word) (s : State) : (s.setD v).d = v := hi_append_lo v

/-- Writing an index register with its extension field and reading the pair back. -/
@[simp] theorem State.pointer_setPointer (r : Idx) (v : Addr) (s : State) : (s.setPointer r v).pointer r = v := by
  simp [State.pointer, State.setPointer, bank_append_offset]

/-- Writing a 16-bit register and reading it back. -/
@[simp] theorem getR16_setR16 (r : R16) (v : Word) (s : State) : getR16 r (setR16 r v s) = v := by
  cases r <;> simp [getR16, setR16]

end Sys2Proof.Machine
end

