-- ==== Sys2Proof/Laws/Bits.lean ====
section
/-!
SUPPORT. The bit-field and extension helpers as statements about integers: address sums, pairs of a bank and an offset,
and the program counter's forced bit 0.
-/

namespace Sys2Proof.Machine

/-! ### Extensions -/

theorem toInt_sext20 (v : Word) : (sext20 v).toInt = v.toInt := BitVec.toInt_signExtend_of_le (by decide)

theorem toInt_sext20b (v : Byte) : (sext20b v).toInt = v.toInt := BitVec.toInt_signExtend_of_le (by decide)

theorem toInt_sext16 (v : Byte) : (sext16 v).toInt = v.toInt := BitVec.toInt_signExtend_of_le (by decide)

theorem toNat_zext20b (v : Byte) : (zext20b v).toNat = v.toNat := by
  have := v.isLt
  simp only [zext20b, BitVec.toNat_setWidth]
  omega

theorem toNat_zext20 (v : Word) : (zext20 v).toNat = v.toNat := by
  have := v.isLt
  simp only [zext20, BitVec.toNat_setWidth]
  omega

/-! ### Address sums on 20 bits -/

/-- A 20-bit sum with a second operand taken as signed. -/
theorem toNat_add_signed (a b : Addr) : ((a + b).toNat : Int) = (a.toNat + b.toInt) % 2 ^ 20 := by
  have := b.isLt
  rw [BitVec.toInt_eq_toNat_cond, BitVec.toNat_add]
  split <;> omega

theorem toNat_add_sext20 (a : Addr) (v : Word) : ((a + sext20 v).toNat : Int) = (a.toNat + v.toInt) % 2 ^ 20 := by
  rw [toNat_add_signed, toInt_sext20]

theorem toNat_add_sext20b (a : Addr) (v : Byte) : ((a + sext20b v).toNat : Int) = (a.toNat + v.toInt) % 2 ^ 20 := by
  rw [toNat_add_signed, toInt_sext20b]

theorem toNat_add_zext20b (a : Addr) (v : Byte) : ((a + zext20b v).toNat : Int) = (a.toNat + v.toNat) % 2 ^ 20 := by
  rw [BitVec.toNat_add, toNat_zext20b]
  omega

/-! ### Pairs -/

/-- A bank and an offset as one number. -/
theorem toNat_bank_offset (n : Nibble) (w : Word) : (n ++ w : Addr).toNat = n.toNat * 65536 + w.toNat := by
  have := w.isLt
  rw [BitVec.toNat_append, ← Nat.shiftLeft_add_eq_or_of_lt this, Nat.shiftLeft_eq]

/-- Two bytes as one number. -/
theorem toNat_bytes (h l : Byte) : (h ++ l : Word).toNat = h.toNat * 256 + l.toNat := by
  have := l.isLt
  rw [BitVec.toNat_append, ← Nat.shiftLeft_add_eq_or_of_lt this, Nat.shiftLeft_eq]

/-- The high byte of two bytes. -/
@[simp] theorem hi_append (h l : Byte) : hi (h ++ l) = h := BitVec.extractLsb'_append_eq_left

/-- The low byte of two bytes. -/
@[simp] theorem lo_append (h l : Byte) : lo (h ++ l) = l := BitVec.extractLsb'_append_eq_right

/-- The bank nibble of an operand byte with a zero upper nibble. -/
@[simp] theorem nib_append (z n : Nibble) : nib (z ++ n) = n := BitVec.extractLsb'_append_eq_right

/-- Two words as one number. -/
theorem toNat_words (h l : Word) : (h ++ l : BitVec 32).toNat = h.toNat * 65536 + l.toNat := by
  have := l.isLt
  rw [BitVec.toNat_append, ← Nat.shiftLeft_add_eq_or_of_lt this, Nat.shiftLeft_eq]

/-- E : D as one number. -/
theorem State.toNat_ed (s : State) : s.ed.toNat = s.e.toNat * 65536 + s.d.toNat := toNat_words s.e s.d

/-- Bit 0 forced to 0 rounds down to even. -/
theorem toNat_even20 (a : Addr) : (even20 a).toNat = a.toNat / 2 * 2 := by
  have e : even20 a = (a >>> 1) <<< 1 := by
    ext i hi
    simp only [even20, BitVec.getElem_and, BitVec.getElem_shiftLeft]
    interval_cases i <;> simp [BitVec.getLsbD_eq_getElem]
  rw [e, BitVec.toNat_shiftLeft, BitVec.toNat_ushiftRight, Nat.shiftRight_eq_div_pow, Nat.shiftLeft_eq]
  have := a.isLt
  omega

/-- Assigning the program counter goes to the target. -/
theorem goesTo_jumpTo {target : Int} {a : Addr} (h : (a.toNat : Int) = target % 2 ^ 20) (s : State) :
    GoesTo target (s.jumpTo a) := by
  rw [GoesTo, State.jumpTo_pc, toNat_even20, ← h]
  push_cast
  rfl

end Sys2Proof.Machine
end

