-- ==== Sys2Proof/Laws/Flags.lean ====
section
/-!
SUPPORT. What the shared value-and-flag operations do, as statements about integers: one lemma for each.
-/

namespace Sys2Proof.Machine

/-- N as the operations compute it is the sign of the result. -/
theorem msb_eq_neg {w : Nat} (r : BitVec w) : r.msb = decide (r.toInt < 0) := BitVec.msb_eq_toInt

/-- Z as the operations compute it says that the result is zero. -/
theorem beq_zero {w : Nat} (r : BitVec w) : (r == 0#w) = decide (r.toNat = 0) := by
  rw [Bool.eq_iff_iff]
  simp [BitVec.toNat_eq]

/-- N and Z computed from the bits are N and Z of the result. -/
theorem setsNZ_mk {w : Nat} (r : BitVec w) (c : Ccr) (hn : c.n = r.msb) (hz : c.z = (r == 0#w)) : SetsNZ r c :=
  ⟨hn.trans (msb_eq_neg r), hz.trans (beq_zero r)⟩

/-- N, Z and V of a load or a logic operation (40_data_movement.md R201, 43_logic_bit_shift.md R340). -/
theorem logic_isResult {w : Nat} (r : BitVec w) (c : Ccr) : IsResult r (c.logic r) :=
  ⟨setsNZ_mk r _ rfl rfl, rfl⟩

/-- A power of two above zero is twice the one before. -/
theorem two_pow_pred {w : Nat} (h : 0 < w) : 2 ^ w = 2 * 2 ^ (w - 1) := by
  obtain ⟨n, rfl⟩ : ∃ n, w = n + 1 := ⟨w - 1, by omega⟩
  simp [Nat.pow_succ, Nat.mul_comm]

/-- The sign bit by the value. -/
theorem msb_eq_le {w : Nat} (x : BitVec w) : x.msb = decide (2 ^ (w - 1) ≤ x.toNat) :=
  BitVec.msb_eq_decide x

/-- The signed value by the unsigned one. -/
theorem toInt_cases {w : Nat} (h : 0 < w) (x : BitVec w) :
    x.toInt = if 2 ^ (w - 1) ≤ x.toNat then (x.toNat : Int) - 2 * 2 ^ (w - 1) else x.toNat := by
  rw [BitVec.toInt_eq_msb_cond, msb_eq_le]
  have := two_pow_pred h
  simp only [decide_eq_true_eq]
  split <;> push_cast [this] <;> rfl

/-- `addW` is the sum (41_add_sub_compare.md R240). -/
theorem addW_isSum {w : Nat} (h : 0 < w) (x y : BitVec w) (cin : Bool) (c : Ccr) :
    IsSum x y cin (addW x y cin c).1 (addW x y cin c).2 := by
  have h2 := two_pow_pred h
  refine ⟨by simp [addW, exactSum], setsNZ_mk _ _ rfl rfl, ?_, rfl⟩
  simp only [addW, outOfRange, msb_eq_le, toInt_cases h, BitVec.toNat_ofNat, exactSum]
  have hx := x.isLt
  have hy := y.isLt
  have hc : cin.toNat ≤ 1 := by cases cin <;> simp
  have hm : (x.toNat + y.toNat + cin.toNat) % 2 ^ w =
      if 2 ^ w ≤ x.toNat + y.toNat + cin.toNat then x.toNat + y.toNat + cin.toNat - 2 ^ w
      else x.toNat + y.toNat + cin.toNat := by
    split
    · rw [Nat.mod_eq_sub_mod (by omega), Nat.mod_eq_of_lt (by omega)]
    · rw [Nat.mod_eq_of_lt (by omega)]
  rw [hm, Bool.eq_iff_iff]
  simp only [Bool.and_eq_true, Bool.or_eq_true, Bool.not_eq_true', beq_iff_eq, beq_eq_false_iff_ne, decide_eq_true_eq,
    ne_eq, decide_eq_decide]
  have hp : ((2 : Int) ^ (w - 1)) = ((2 ^ (w - 1) : Nat) : Int) := by push_cast; rfl
  rw [hp]
  generalize 2 ^ (w - 1) = P at *
  split_ifs <;> omega

/-- `subW` is the difference (41_add_sub_compare.md R240). -/
theorem subW_isDifference {w : Nat} (h : 0 < w) (x y : BitVec w) (cin : Bool) (c : Ccr) :
    IsDifference x y cin (subW x y cin c).1 (subW x y cin c).2 := by
  have h2 := two_pow_pred h
  have hx := x.isLt
  have hy := y.isLt
  have hc : cin.toNat ≤ 1 := by cases cin <;> simp
  have hr : ((subW x y cin c).1.toNat : Int) = ((x.toNat : Int) - y.toNat - cin.toNat) % 2 ^ w := by
    simp only [subW, exactDiff, BitVec.toNat_ofInt]
    rw [Int.toNat_of_nonneg (Int.emod_nonneg _ (by positivity))]
    push_cast; rfl
  refine ⟨hr, setsNZ_mk _ _ rfl rfl, ?_, ?_⟩
  · have hm : ((x.toNat : Int) - y.toNat - cin.toNat) % 2 ^ w =
        if (x.toNat : Int) - y.toNat - cin.toNat < 0 then (x.toNat : Int) - y.toNat - cin.toNat + (2 ^ w : Nat)
        else (x.toNat : Int) - y.toNat - cin.toNat := by
      have e : ((2 : Int) ^ w) = ((2 ^ w : Nat) : Int) := by push_cast; rfl
      rw [e]
      split
      · rw [← Int.add_emod_right, Int.emod_eq_of_lt (by omega) (by omega)]
      · rw [Int.emod_eq_of_lt (by omega) (by omega)]
    rw [hm] at hr
    have hv : (subW x y cin c).2.v = (!(x.msb == y.msb) && !((subW x y cin c).1.msb == x.msb)) := rfl
    rw [hv, Bool.eq_iff_iff]
    simp only [outOfRange, msb_eq_le, toInt_cases h]
    simp only [Bool.and_eq_true, Bool.or_eq_true, Bool.not_eq_true', beq_eq_false_iff_ne, decide_eq_true_eq,
      ne_eq, decide_eq_decide]
    have hp : ((2 : Int) ^ (w - 1)) = ((2 ^ (w - 1) : Nat) : Int) := by push_cast; rfl
    rw [hp]
    generalize (subW x y cin c).1.toNat = r at *
    generalize 2 ^ (w - 1) = P at *
    split_ifs at hr ⊢ <;> omega
  · simp only [subW, exactDiff]
    congr 1
    simp only [eq_iff_iff]
    omega

/-! ### One operand -/

/-- The flags of a shift (43_logic_bit_shift.md R359). -/
theorem shift_sets {w : Nat} (r : BitVec w) (out : Bool) (c : Ccr) : SetsShift r out (c.shift r out) := by
  refine ⟨setsNZ_mk r _ rfl rfl, rfl, ?_⟩
  cases hr : r.msb <;> cases out <;> simp [Ccr.shift, hr]

/-- COM (R313). -/
theorem opCom_isUnary {w : Nat} (v : BitVec w) (c : Ccr) : IsUnary .com v c (opCom v c).1 (opCom v c).2 := by
  refine ⟨?_, setsNZ_mk _ _ rfl rfl, rfl, rfl⟩
  have := v.isLt
  simp only [opCom, BitVec.toNat_not]
  omega

/-- DEC (R299). -/
theorem opDec_isUnary {w : Nat} (h : 0 < w) (v : BitVec w) (c : Ccr) :
    IsUnary .dec v c (opDec v c).1 (opDec v c).2 := by
  refine ⟨?_, setsNZ_mk _ _ rfl rfl, ?_, rfl⟩
  · have := v.isLt
    have h1 : 1 < 2 ^ w := Nat.one_lt_two_pow (by omega)
    simp only [opDec, BitVec.toNat_sub, BitVec.toNat_ofNat, Nat.mod_eq_of_lt h1]
    congr 1
    omega
  · simp only [opDec]
    rw [Bool.eq_iff_iff]
    have : 2 ^ (w - 1) % 2 ^ w = 2 ^ (w - 1) := Nat.mod_eq_of_lt (Nat.pow_lt_pow_right (by omega) (by omega))
    simp [BitVec.toNat_eq, BitVec.toNat_intMin, this]

/-- NEG (R319). -/
theorem opNeg_isUnary {w : Nat} (h : 0 < w) (v : BitVec w) (c : Ccr) :
    IsUnary .neg v c (opNeg v c).1 (opNeg v c).2 := by
  refine ⟨by simp [opNeg], setsNZ_mk _ _ rfl rfl, ?_, ?_⟩
  · simp only [opNeg]
    rw [Bool.eq_iff_iff]
    have : 2 ^ (w - 1) % 2 ^ w = 2 ^ (w - 1) := Nat.mod_eq_of_lt (Nat.pow_lt_pow_right (by omega) (by omega))
    simp only [beq_iff_eq, BitVec.toNat_eq, BitVec.toNat_intMin, this]
    exact decide_eq_true_iff.symm
  · simp only [opNeg, beq_zero, ← decide_not]

/-- INC (R303). -/
theorem opInc_isUnary {w : Nat} (h : 0 < w) (v : BitVec w) (c : Ccr) :
    IsUnary .inc v c (opInc v c).1 (opInc v c).2 := by
  refine ⟨?_, setsNZ_mk _ _ rfl rfl, ?_, rfl⟩
  · have h1 : 1 < 2 ^ w := Nat.one_lt_two_pow (by omega)
    simp only [opInc, BitVec.toNat_add, BitVec.toNat_ofNat, Nat.mod_eq_of_lt h1]
  · simp only [opInc]
    rw [Bool.eq_iff_iff]
    simp [BitVec.toNat_eq, BitVec.toNat_intMax]

/-- CLR (R307). -/
theorem opClr_isUnary {w : Nat} (v : BitVec w) (c : Ccr) : IsUnary .clr v c (opClr v c).1 (opClr v c).2 :=
  ⟨by simp [opClr], rfl, rfl, rfl, rfl⟩

/-- TST (R268). -/
theorem opTst_isUnary {w : Nat} (v : BitVec w) (c : Ccr) : IsUnary .tst v c (opTst v c).1 (opTst v c).2 :=
  ⟨rfl, setsNZ_mk _ _ rfl rfl, rfl, rfl⟩

/-- Shifting left by one is doubling. -/
theorem toNat_shl_one {w : Nat} (v : BitVec w) : (v <<< 1).toNat = 2 * v.toNat % 2 ^ w := by
  simp [Nat.shiftLeft_eq, Nat.mul_comm]

/-- Bit 0 is the parity. -/
theorem getLsbD_zero_parity {w : Nat} (v : BitVec w) : v.getLsbD 0 = decide (v.toNat % 2 = 1) := by
  simp [BitVec.getLsbD, Nat.testBit_zero]

/-- ASL (R360). -/
theorem opAsl_isUnary {w : Nat} (v : BitVec w) (c : Ccr) : IsUnary .asl v c (opAsl v c).1 (opAsl v c).2 := by
  refine ⟨toNat_shl_one v, ?_⟩
  rw [← msb_eq_le]
  exact shift_sets _ _ _

/-- ASR (R366). -/
theorem opAsr_isUnary {w : Nat} (v : BitVec w) (c : Ccr) : IsUnary .asr v c (opAsr v c).1 (opAsr v c).2 := by
  refine ⟨?_, ?_⟩
  · simp [opAsr, BitVec.toInt_sshiftRight, Int.shiftRight_eq_div_pow]
  · rw [← getLsbD_zero_parity]
    exact shift_sets _ _ _

/-- LSR (R372). -/
theorem opLsr_isUnary {w : Nat} (v : BitVec w) (c : Ccr) : IsUnary .lsr v c (opLsr v c).1 (opLsr v c).2 := by
  refine ⟨?_, ?_⟩
  · simp [opLsr, Nat.shiftRight_eq_div_pow]
  · rw [← getLsbD_zero_parity]
    exact shift_sets _ _ _

/-- The value ROL gives: C comes in at bit 0 (R378). -/
theorem toNat_rolValue {w : Nat} (h : 0 < w) (v : BitVec w) (cin : Bool) :
    (rolValue v cin).toNat = (2 * v.toNat + cin.toNat) % 2 ^ w := by
  have h1 : 1 < 2 ^ w := Nat.one_lt_two_pow (by omega)
  have h2 := two_pow_pred h
  have e : (v <<< 1) ||| (BitVec.ofBool cin).setWidth w = (v <<< 1) + (BitVec.ofBool cin).setWidth w := by
    refine (BitVec.add_eq_or_of_and_eq_zero _ _ ?_).symm
    ext i hi
    cases i <;> cases cin <;> simp
  rw [rolValue, e, BitVec.toNat_add, toNat_shl_one]
  cases cin <;> simp [Nat.mod_eq_of_lt h1]

/-- ROL (R378). -/
theorem opRol_isUnary {w : Nat} (h : 0 < w) (v : BitVec w) (c : Ccr) :
    IsUnary .rol v c (opRol v c).1 (opRol v c).2 := by
  refine ⟨toNat_rolValue h v c.c, ?_⟩
  rw [← msb_eq_le]
  exact shift_sets _ _ _

/-- The value ROR gives: C comes in at the top (R384). -/
theorem toNat_rorValue {w : Nat} (h : 0 < w) (v : BitVec w) (cin : Bool) :
    (rorValue v cin).toNat = v.toNat / 2 + cin.toNat * 2 ^ (w - 1) := by
  have h1 : 1 < 2 ^ w := Nat.one_lt_two_pow (by omega)
  have h2 := two_pow_pred h
  have h3 : 2 ^ (w - 1) % 2 ^ w = 2 ^ (w - 1) := Nat.mod_eq_of_lt (Nat.pow_lt_pow_right (by omega) (by omega))
  have hv := v.isLt
  have e : (v >>> 1) ||| ((BitVec.ofBool cin).setWidth w <<< (w - 1)) =
      (v >>> 1) + ((BitVec.ofBool cin).setWidth w <<< (w - 1)) := by
    refine (BitVec.add_eq_or_of_and_eq_zero _ _ ?_).symm
    ext i hi
    by_cases hw : i < w - 1
    · simp [hw]
    · have : i = w - 1 := by omega
      subst this
      simp [BitVec.getLsbD_of_ge v (1 + (w - 1)) (by omega)]
  rw [rorValue, e, BitVec.toNat_add]
  cases cin <;> simp [Nat.shiftRight_eq_div_pow, Nat.shiftLeft_eq, Nat.mod_eq_of_lt h1, h3] <;>
    rw [Nat.mod_eq_of_lt (by omega)]

/-- ROR (R384). -/
theorem opRor_isUnary {w : Nat} (h : 0 < w) (v : BitVec w) (c : Ccr) :
    IsUnary .ror v c (opRor v c).1 (opRor v c).2 := by
  refine ⟨toNat_rorValue h v c.c, ?_⟩
  rw [← getLsbD_zero_parity]
  exact shift_sets _ _ _

end Sys2Proof.Machine
end

