-- ==== Sys2Proof/Laws/Memory.lean ====
section
/-!
SUPPORT. The laws of memory: reading after writing, and that a write keeps the canonical form.
-/

namespace Sys2Proof

/-- Reading an entry's own address. -/
theorem Memory.get_entry_self (a : Nat) (v : Byte) (rest : Memory)
    (h : Memory.get rest a = Memory.unlisted) : Memory.get (Memory.entry a v rest) a = v := by
  unfold Memory.entry
  split
  · rename_i e; rw [h, e]
  · simp [Memory.get]

/-- Reading another address than the entry's. -/
theorem Memory.get_entry_ne {a x : Nat} (v : Byte) (rest : Memory) (h : x ≠ a) :
    Memory.get (Memory.entry a v rest) x = Memory.get rest x := by
  unfold Memory.entry
  split
  · rfl
  · simp [Memory.get, Ne.symm h]

/-- What the canonical form says of the first entry and of the rest. -/
theorem Memory.wfFrom_cons {low k : Nat} {w : Byte} {rest : Memory}
    (h : Memory.wfFrom low ((k, w) :: rest) = true) :
    low ≤ k ∧ k < 2 ^ 20 ∧ w ≠ Memory.unlisted ∧ Memory.wfFrom (k + 1) rest = true := by
  simpa [Memory.wfFrom, and_assoc] using h

/-- How the canonical form of a list is built from its first entry and the rest. -/
theorem Memory.wfFrom_intro {low k : Nat} {w : Byte} {rest : Memory} (h1 : low ≤ k) (h2 : k < 2 ^ 20)
    (h3 : w ≠ Memory.unlisted) (h4 : Memory.wfFrom (k + 1) rest = true) :
    Memory.wfFrom low ((k, w) :: rest) = true := by
  simpa [Memory.wfFrom, h1, h3, h4] using h2

/-- A list in canonical form from `low` is so from any lower address. -/
theorem Memory.wfFrom_mono {low low' : Nat} (m : Memory) (h : Memory.wfFrom low m = true) (le : low' ≤ low) :
    Memory.wfFrom low' m = true := by
  cases m with
  | nil => rfl
  | cons c rest =>
    obtain ⟨k, w⟩ := c
    obtain ⟨h1, h2, h3, h4⟩ := Memory.wfFrom_cons h
    exact Memory.wfFrom_intro (Nat.le_trans le h1) h2 h3 h4

/-- Below the canonical form's first address nothing is listed. -/
theorem Memory.get_below {low a : Nat} (m : Memory) (h : Memory.wfFrom low m = true) (lt : a < low) :
    Memory.get m a = Memory.unlisted := by
  induction m generalizing low with
  | nil => rfl
  | cons c rest ih =>
    obtain ⟨k, w⟩ := c
    obtain ⟨h1, _, _, h4⟩ := Memory.wfFrom_cons h
    have ne : k ≠ a := by omega
    simp [Memory.get, ne, ih h4 (by omega)]

/-- Reading the byte just written (20_memory.md R100). -/
theorem Memory.get_set_self {low : Nat} (m : Memory) (a : Nat) (v : Byte) (h : Memory.wfFrom low m = true) :
    Memory.get (Memory.set m a v) a = v := by
  induction m generalizing low with
  | nil => exact Memory.get_entry_self a v [] rfl
  | cons c rest ih =>
    obtain ⟨k, w⟩ := c
    obtain ⟨_, h2, h3, h4⟩ := Memory.wfFrom_cons h
    unfold Memory.set
    split
    · rename_i lt
      exact Memory.get_entry_self a v _ (Memory.get_below _ (Memory.wfFrom_intro (Nat.le_refl k) h2 h3 h4) lt)
    · split
      · rename_i e
        exact Memory.get_entry_self a v rest (Memory.get_below rest h4 (by omega))
      · rename_i ne
        simp [Memory.get, Ne.symm ne, ih h4]

/-- A write leaves every other address alone. -/
theorem Memory.get_set_ne {a x : Nat} (m : Memory) (v : Byte) (h : x ≠ a) :
    Memory.get (Memory.set m a v) x = Memory.get m x := by
  induction m with
  | nil => exact Memory.get_entry_ne v [] h
  | cons c rest ih =>
    obtain ⟨k, w⟩ := c
    unfold Memory.set
    split
    · exact Memory.get_entry_ne v _ h
    · split
      · rename_i e
        rw [Memory.get_entry_ne v rest h]
        simp [Memory.get, e ▸ Ne.symm h]
      · simp [Memory.get, ih]

/-- A write below 2^20 keeps the canonical form from every address not above the one written. -/
theorem Memory.wfFrom_set {low : Nat} (m : Memory) (a : Nat) (v : Byte) (h : Memory.wfFrom low m = true)
    (le : low ≤ a) (lt : a < 2 ^ 20) : Memory.wfFrom low (Memory.set m a v) = true := by
  induction m generalizing low with
  | nil =>
    unfold Memory.set Memory.entry
    split
    · rfl
    · rename_i nv; exact Memory.wfFrom_intro le lt nv rfl
  | cons c rest ih =>
    obtain ⟨k, w⟩ := c
    obtain ⟨h1, h2, h3, h4⟩ := Memory.wfFrom_cons h
    unfold Memory.set
    split
    · rename_i ltk
      unfold Memory.entry
      split
      · exact h
      · rename_i nv
        exact Memory.wfFrom_intro le lt nv (Memory.wfFrom_intro (by omega) h2 h3 h4)
    · split
      · unfold Memory.entry
        split
        · exact Memory.wfFrom_mono rest h4 (by omega)
        · rename_i e nv
          subst e
          exact Memory.wfFrom_intro le lt nv h4
      · exact Memory.wfFrom_intro h1 h2 h3 (ih h4 (by omega))

/-- Every write of the machine keeps the canonical form (20_memory.md R90; log entry 2). -/
theorem Memory.wf_set (m : Memory) (a : Addr) (v : Byte) (h : Memory.wf m = true) :
    Memory.wf (Memory.set m a.toNat v) = true :=
  Memory.wfFrom_set m a.toNat v h (Nat.zero_le _) a.isLt

end Sys2Proof
end

