-- ==== Sys2Proof/Laws/Reads.lean ====
section
/-!
SUPPORT. What an update of the registers leaves: each read of memory, the stack pointer and the program counter; and one
lemma per field for a store to data space.
-/

namespace Sys2Proof.Machine

/-! ### Reading memory and SK : SP after an update of the registers -/

@[simp] theorem State.peek_setD (v : Word) (s : State) (q : Space) (x : Addr) : (s.setD v).peek q x = s.peek q x := rfl
@[simp] theorem State.peekWord_setD (v : Word) (s : State) (q : Space) (x : Addr) : (s.setD v).peekWord q x = s.peekWord q x := rfl
@[simp] theorem State.skSp_setD (v : Word) (s : State) : (s.setD v).skSp = s.skSp := rfl
@[simp] theorem State.peek_setEd (v : BitVec 32) (s : State) (q : Space) (x : Addr) : (s.setEd v).peek q x = s.peek q x := rfl
@[simp] theorem State.peekWord_setEd (v : BitVec 32) (s : State) (q : Space) (x : Addr) : (s.setEd v).peekWord q x = s.peekWord q x := rfl
@[simp] theorem State.skSp_setEd (v : BitVec 32) (s : State) : (s.setEd v).skSp = s.skSp := rfl
@[simp] theorem State.peek_setK (v : Word) (s : State) (q : Space) (x : Addr) : (s.setK v).peek q x = s.peek q x := rfl
@[simp] theorem State.peekWord_setK (v : Word) (s : State) (q : Space) (x : Addr) : (s.setK v).peekWord q x = s.peekWord q x := rfl
@[simp] theorem State.skSp_setK (v : Word) (s : State) : (s.setK v).skSp = s.skSp := rfl
@[simp] theorem State.peek_setSkSp (v : Addr) (s : State) (q : Space) (x : Addr) : (s.setSkSp v).peek q x = s.peek q x := rfl
@[simp] theorem State.peekWord_setSkSp (v : Addr) (s : State) (q : Space) (x : Addr) : (s.setSkSp v).peekWord q x = s.peekWord q x := rfl
@[simp] theorem State.peek_advance (v : Addr) (s : State) (q : Space) (x : Addr) : (s.advance v).peek q x = s.peek q x := rfl
@[simp] theorem State.peekWord_advance (v : Addr) (s : State) (q : Space) (x : Addr) : (s.advance v).peekWord q x = s.peekWord q x := rfl
@[simp] theorem State.skSp_advance (v : Addr) (s : State) : (s.advance v).skSp = s.skSp := rfl
@[simp] theorem State.peek_jumpTo (v : Addr) (s : State) (q : Space) (x : Addr) : (s.jumpTo v).peek q x = s.peek q x := rfl
@[simp] theorem State.peekWord_jumpTo (v : Addr) (s : State) (q : Space) (x : Addr) : (s.jumpTo v).peekWord q x = s.peekWord q x := rfl
@[simp] theorem State.skSp_jumpTo (v : Addr) (s : State) : (s.jumpTo v).skSp = s.skSp := rfl
@[simp] theorem State.peek_bump (s : State) (q : Space) (x : Addr) : (s.bump).peek q x = s.peek q x := rfl
@[simp] theorem State.peekWord_bump (s : State) (q : Space) (x : Addr) : (s.bump).peekWord q x = s.peekWord q x := rfl
@[simp] theorem State.skSp_bump (s : State) : (s.bump).skSp = s.skSp := rfl
@[simp] theorem State.peek_setFlags (c : Ccr) (s : State) (q : Space) (x : Addr) : (s.setFlags c).peek q x = s.peek q x := rfl
@[simp] theorem State.peekWord_setFlags (c : Ccr) (s : State) (q : Space) (x : Addr) : (s.setFlags c).peekWord q x = s.peekWord q x := rfl
@[simp] theorem State.skSp_setFlags (c : Ccr) (s : State) : (s.setFlags c).skSp = s.skSp := rfl
@[simp] theorem State.peek_writeCcr (c : Ccr) (s : State) (q : Space) (x : Addr) : (s.writeCcr c).peek q x = s.peek q x := rfl
@[simp] theorem State.peekWord_writeCcr (c : Ccr) (s : State) (q : Space) (x : Addr) : (s.writeCcr c).peekWord q x = s.peekWord q x := rfl
@[simp] theorem State.skSp_writeCcr (c : Ccr) (s : State) : (s.writeCcr c).skSp = s.skSp := rfl
@[simp] theorem State.peek_setRun (r : RunState) (s : State) (q : Space) (x : Addr) : (s.setRun r).peek q x = s.peek q x := rfl
@[simp] theorem State.peekWord_setRun (r : RunState) (s : State) (q : Space) (x : Addr) : (s.setRun r).peekWord q x = s.peekWord q x := rfl
@[simp] theorem State.skSp_setRun (r : RunState) (s : State) : (s.setRun r).skSp = s.skSp := rfl
@[simp] theorem State.peek_beginHandler (v : Addr) (s : State) (q : Space) (x : Addr) : (s.beginHandler v).peek q x = s.peek q x := rfl
@[simp] theorem State.peekWord_beginHandler (v : Addr) (s : State) (q : Space) (x : Addr) : (s.beginHandler v).peekWord q x = s.peekWord q x := rfl
@[simp] theorem State.skSp_beginHandler (v : Addr) (s : State) : (s.beginHandler v).skSp = s.skSp := rfl
@[simp] theorem State.peek_inhibit (s : State) (q : Space) (x : Addr) : (s.inhibit).peek q x = s.peek q x := rfl
@[simp] theorem State.peekWord_inhibit (s : State) (q : Space) (x : Addr) : (s.inhibit).peekWord q x = s.peekWord q x := rfl
@[simp] theorem State.skSp_inhibit (s : State) : (s.inhibit).skSp = s.skSp := rfl
@[simp] theorem State.peek_setIndex (r : Idx) (v : Word) (s : State) (q : Space) (x : Addr) : (s.setIndex r v).peek q x = s.peek q x := by
  cases r <;> rfl
@[simp] theorem State.peekWord_setIndex (r : Idx) (v : Word) (s : State) (q : Space) (x : Addr) : (s.setIndex r v).peekWord q x = s.peekWord q x := by
  cases r <;> rfl
@[simp] theorem State.skSp_setIndex (r : Idx) (v : Word) (s : State) : (s.setIndex r v).skSp = s.skSp := by cases r <;> rfl
@[simp] theorem State.peek_setExt (r : Idx) (v : Nibble) (s : State) (q : Space) (x : Addr) : (s.setExt r v).peek q x = s.peek q x := by
  cases r <;> rfl
@[simp] theorem State.peekWord_setExt (r : Idx) (v : Nibble) (s : State) (q : Space) (x : Addr) : (s.setExt r v).peekWord q x = s.peekWord q x := by
  cases r <;> rfl
@[simp] theorem State.skSp_setExt (r : Idx) (v : Nibble) (s : State) : (s.setExt r v).skSp = s.skSp := by cases r <;> rfl
@[simp] theorem State.peek_setPointer (r : Idx) (v : Addr) (s : State) (q : Space) (x : Addr) : (s.setPointer r v).peek q x = s.peek q x := by
  cases r <;> rfl
@[simp] theorem State.peekWord_setPointer (r : Idx) (v : Addr) (s : State) (q : Space) (x : Addr) : (s.setPointer r v).peekWord q x = s.peekWord q x := by
  cases r <;> rfl
@[simp] theorem State.skSp_setPointer (r : Idx) (v : Addr) (s : State) : (s.setPointer r v).skSp = s.skSp := by cases r <;> rfl
@[simp] theorem State.peek_setR8 (r : R8) (v : Byte) (s : State) (q : Space) (x : Addr) : (setR8 r v s).peek q x = s.peek q x := by
  cases r <;> rfl
@[simp] theorem State.peekWord_setR8 (r : R8) (v : Byte) (s : State) (q : Space) (x : Addr) : (setR8 r v s).peekWord q x = s.peekWord q x := by
  cases r <;> rfl
@[simp] theorem State.skSp_setR8 (r : R8) (v : Byte) (s : State) : (setR8 r v s).skSp = s.skSp := by cases r <;> rfl
@[simp] theorem State.peek_setR16 (r : R16) (v : Word) (s : State) (q : Space) (x : Addr) : (setR16 r v s).peek q x = s.peek q x := by
  cases r <;> rfl
@[simp] theorem State.peekWord_setR16 (r : R16) (v : Word) (s : State) (q : Space) (x : Addr) : (setR16 r v s).peekWord q x = s.peekWord q x := by
  cases r <;> rfl

/-! ### A store to data space -/

@[simp] theorem State.poke_data_a (a : Addr) (v : Byte) (s : State) : (s.poke .data a v).a = s.a := rfl
@[simp] theorem State.poke_data_b (a : Addr) (v : Byte) (s : State) : (s.poke .data a v).b = s.b := rfl
@[simp] theorem State.poke_data_e (a : Addr) (v : Byte) (s : State) : (s.poke .data a v).e = s.e := rfl
@[simp] theorem State.poke_data_ix (a : Addr) (v : Byte) (s : State) : (s.poke .data a v).ix = s.ix := rfl
@[simp] theorem State.poke_data_iy (a : Addr) (v : Byte) (s : State) : (s.poke .data a v).iy = s.iy := rfl
@[simp] theorem State.poke_data_iz (a : Addr) (v : Byte) (s : State) : (s.poke .data a v).iz = s.iz := rfl
@[simp] theorem State.poke_data_sp (a : Addr) (v : Byte) (s : State) : (s.poke .data a v).sp = s.sp := rfl
@[simp] theorem State.poke_data_ek (a : Addr) (v : Byte) (s : State) : (s.poke .data a v).ek = s.ek := rfl
@[simp] theorem State.poke_data_xk (a : Addr) (v : Byte) (s : State) : (s.poke .data a v).xk = s.xk := rfl
@[simp] theorem State.poke_data_yk (a : Addr) (v : Byte) (s : State) : (s.poke .data a v).yk = s.yk := rfl
@[simp] theorem State.poke_data_zk (a : Addr) (v : Byte) (s : State) : (s.poke .data a v).zk = s.zk := rfl
@[simp] theorem State.poke_data_sk (a : Addr) (v : Byte) (s : State) : (s.poke .data a v).sk = s.sk := rfl
@[simp] theorem State.poke_data_pc (a : Addr) (v : Byte) (s : State) : (s.poke .data a v).pc = s.pc := rfl
@[simp] theorem State.poke_data_ccr (a : Addr) (v : Byte) (s : State) : (s.poke .data a v).ccr = s.ccr := rfl
@[simp] theorem State.poke_data_mac (a : Addr) (v : Byte) (s : State) : (s.poke .data a v).mac = s.mac := rfl
@[simp] theorem State.poke_data_run (a : Addr) (v : Byte) (s : State) : (s.poke .data a v).run = s.run := rfl
@[simp] theorem State.poke_data_hid (a : Addr) (v : Byte) (s : State) : (s.poke .data a v).hid = s.hid := rfl
@[simp] theorem State.poke_data_pmem (a : Addr) (v : Byte) (s : State) : (s.poke .data a v).pmem = s.pmem := rfl
@[simp] theorem State.poke_data_platform (a : Addr) (v : Byte) (s : State) : (s.poke .data a v).platform = s.platform := rfl
@[simp] theorem State.poke_data_pins (a : Addr) (v : Byte) (s : State) : (s.poke .data a v).pins = s.pins := rfl
@[simp] theorem State.poke_data_script (a : Addr) (v : Byte) (s : State) : (s.poke .data a v).script = s.script := rfl
@[simp] theorem State.poke_data_events (a : Addr) (v : Byte) (s : State) : (s.poke .data a v).events = s.events := rfl
@[simp] theorem State.poke_data_draws (a : Addr) (v : Byte) (s : State) : (s.poke .data a v).draws = s.draws := rfl
@[simp] theorem State.poke_data_mem (a : Addr) (v : Byte) (s : State) :
    (s.poke .data a v).mem = Memory.set s.mem a.toNat v := rfl
@[simp] theorem State.poke_data_skSp (a : Addr) (v : Byte) (s : State) : (s.poke .data a v).skSp = s.skSp := rfl

/-- A word stored with no bus cycle, most significant byte first (20_memory.md R100). -/
@[irreducible] def pokeWord (a : Addr) (v : Word) (s : State) : State := (s.poke .data a (hi v)).poke .data (a + 1) (lo v)

@[simp] theorem pokeWord_a (a : Addr) (v : Word) (s : State) : (pokeWord a v s).a = s.a := by
  simp only [pokeWord, State.poke_data_a]
@[simp] theorem pokeWord_b (a : Addr) (v : Word) (s : State) : (pokeWord a v s).b = s.b := by
  simp only [pokeWord, State.poke_data_b]
@[simp] theorem pokeWord_e (a : Addr) (v : Word) (s : State) : (pokeWord a v s).e = s.e := by
  simp only [pokeWord, State.poke_data_e]
@[simp] theorem pokeWord_ix (a : Addr) (v : Word) (s : State) : (pokeWord a v s).ix = s.ix := by
  simp only [pokeWord, State.poke_data_ix]
@[simp] theorem pokeWord_iy (a : Addr) (v : Word) (s : State) : (pokeWord a v s).iy = s.iy := by
  simp only [pokeWord, State.poke_data_iy]
@[simp] theorem pokeWord_iz (a : Addr) (v : Word) (s : State) : (pokeWord a v s).iz = s.iz := by
  simp only [pokeWord, State.poke_data_iz]
@[simp] theorem pokeWord_sp (a : Addr) (v : Word) (s : State) : (pokeWord a v s).sp = s.sp := by
  simp only [pokeWord, State.poke_data_sp]
@[simp] theorem pokeWord_ek (a : Addr) (v : Word) (s : State) : (pokeWord a v s).ek = s.ek := by
  simp only [pokeWord, State.poke_data_ek]
@[simp] theorem pokeWord_xk (a : Addr) (v : Word) (s : State) : (pokeWord a v s).xk = s.xk := by
  simp only [pokeWord, State.poke_data_xk]
@[simp] theorem pokeWord_yk (a : Addr) (v : Word) (s : State) : (pokeWord a v s).yk = s.yk := by
  simp only [pokeWord, State.poke_data_yk]
@[simp] theorem pokeWord_zk (a : Addr) (v : Word) (s : State) : (pokeWord a v s).zk = s.zk := by
  simp only [pokeWord, State.poke_data_zk]
@[simp] theorem pokeWord_sk (a : Addr) (v : Word) (s : State) : (pokeWord a v s).sk = s.sk := by
  simp only [pokeWord, State.poke_data_sk]
@[simp] theorem pokeWord_pc (a : Addr) (v : Word) (s : State) : (pokeWord a v s).pc = s.pc := by
  simp only [pokeWord, State.poke_data_pc]
@[simp] theorem pokeWord_ccr (a : Addr) (v : Word) (s : State) : (pokeWord a v s).ccr = s.ccr := by
  simp only [pokeWord, State.poke_data_ccr]
@[simp] theorem pokeWord_mac (a : Addr) (v : Word) (s : State) : (pokeWord a v s).mac = s.mac := by
  simp only [pokeWord, State.poke_data_mac]
@[simp] theorem pokeWord_run (a : Addr) (v : Word) (s : State) : (pokeWord a v s).run = s.run := by
  simp only [pokeWord, State.poke_data_run]
@[simp] theorem pokeWord_hid (a : Addr) (v : Word) (s : State) : (pokeWord a v s).hid = s.hid := by
  simp only [pokeWord, State.poke_data_hid]
@[simp] theorem pokeWord_pmem (a : Addr) (v : Word) (s : State) : (pokeWord a v s).pmem = s.pmem := by
  simp only [pokeWord, State.poke_data_pmem]
@[simp] theorem pokeWord_platform (a : Addr) (v : Word) (s : State) : (pokeWord a v s).platform = s.platform := by
  simp only [pokeWord, State.poke_data_platform]
@[simp] theorem pokeWord_pins (a : Addr) (v : Word) (s : State) : (pokeWord a v s).pins = s.pins := by
  simp only [pokeWord, State.poke_data_pins]
@[simp] theorem pokeWord_script (a : Addr) (v : Word) (s : State) : (pokeWord a v s).script = s.script := by
  simp only [pokeWord, State.poke_data_script]
@[simp] theorem pokeWord_events (a : Addr) (v : Word) (s : State) : (pokeWord a v s).events = s.events := by
  simp only [pokeWord, State.poke_data_events]
@[simp] theorem pokeWord_draws (a : Addr) (v : Word) (s : State) : (pokeWord a v s).draws = s.draws := by
  simp only [pokeWord, State.poke_data_draws]
@[simp] theorem pokeWord_skSp (a : Addr) (v : Word) (s : State) : (pokeWord a v s).skSp = s.skSp := by
  simp only [pokeWord, State.poke_data_skSp]

end Sys2Proof.Machine
end

