-- ==== Sys2Proof/Laws/Ops.lean ====
section
/-!
SUPPORT. What each shared operation over memory and the stack does: on every platform, the fields it cannot touch and
the invariant; on a quiet platform, its whole effect.
-/

namespace Sys2Proof.Machine

/-! ### Quiet platforms -/

/-- A state on the same platform is quiet too. -/
theorem State.Quiet.of_platform {s t : State} (h : s.Quiet) (e : t.platform = s.platform) : t.Quiet :=
  ⟨e ▸ h.no_berr, e ▸ h.no_bkpt, e ▸ h.no_masters⟩

/-- No window, no hit. -/
theorem hitsAny_nil (sp : Space) (write : Bool) (cycles : List Addr) : hitsAny [] sp write cycles = false := by
  induction cycles with
  | nil => rfl
  | cons a rest ih => simp [hitsAny]

theorem State.Quiet.busError {s : State} (h : s.Quiet) (sp : Space) (write : Bool) (cycles : List Addr) :
    s.busError sp write cycles = false := by
  rw [State.busError, h.no_berr]; exact hitsAny_nil sp write cycles

theorem State.Quiet.bkptHit {s : State} (h : s.Quiet) (sp : Space) (write : Bool) (cycles : List Addr) :
    s.bkptHit sp write cycles = false := by
  rw [State.bkptHit, h.no_bkpt]; exact hitsAny_nil sp write cycles

/-- Without another bus master nothing is written between bus cycles. -/
theorem State.masters_of_none {s : State} (h : s.platform.externalMasters = false) : s.masters = s := by
  simp [State.masters, h]

/-- The writes of other bus masters reach memory alone. -/
theorem State.applyWrites_eq (ws : List MasterWrite) (s : State) :
    ∃ m p, s.applyWrites ws = { s with mem := m, pmem := p } := by
  induction ws generalizing s with
  | nil => exact ⟨s.mem, s.pmem, rfl⟩
  | cons w rest ih =>
    obtain ⟨m, p, h⟩ := ih { s.poke w.space w.addr w.value with stores := s.stores }
    refine ⟨m, p, ?_⟩
    rw [State.applyWrites, h]
    unfold State.poke
    split <;> rfl

/-- All that other bus masters can do between bus cycles: memory changes, and their writes are used up. -/
theorem State.masters_eq (s : State) :
    ∃ m p w, s.masters = { s with mem := m, pmem := p, pins := { s.pins with writes := w } } := by
  unfold State.masters
  split
  · split
    · exact ⟨s.mem, s.pmem, s.pins.writes, rfl⟩
    · rename_i now later _
      obtain ⟨m, p, h⟩ := State.applyWrites_eq now { s with pins := { s.pins with writes := later } }
      exact ⟨m, p, later, h⟩
  · exact ⟨s.mem, s.pmem, s.pins.writes, rfl⟩

@[simp] theorem State.masters_a (s : State) : s.masters.a = s.a := by
  obtain ⟨_, _, _, h⟩ := s.masters_eq; rw [h]
@[simp] theorem State.masters_b (s : State) : s.masters.b = s.b := by
  obtain ⟨_, _, _, h⟩ := s.masters_eq; rw [h]
@[simp] theorem State.masters_e (s : State) : s.masters.e = s.e := by
  obtain ⟨_, _, _, h⟩ := s.masters_eq; rw [h]
@[simp] theorem State.masters_ix (s : State) : s.masters.ix = s.ix := by
  obtain ⟨_, _, _, h⟩ := s.masters_eq; rw [h]
@[simp] theorem State.masters_iy (s : State) : s.masters.iy = s.iy := by
  obtain ⟨_, _, _, h⟩ := s.masters_eq; rw [h]
@[simp] theorem State.masters_iz (s : State) : s.masters.iz = s.iz := by
  obtain ⟨_, _, _, h⟩ := s.masters_eq; rw [h]
@[simp] theorem State.masters_sp (s : State) : s.masters.sp = s.sp := by
  obtain ⟨_, _, _, h⟩ := s.masters_eq; rw [h]
@[simp] theorem State.masters_ek (s : State) : s.masters.ek = s.ek := by
  obtain ⟨_, _, _, h⟩ := s.masters_eq; rw [h]
@[simp] theorem State.masters_xk (s : State) : s.masters.xk = s.xk := by
  obtain ⟨_, _, _, h⟩ := s.masters_eq; rw [h]
@[simp] theorem State.masters_yk (s : State) : s.masters.yk = s.yk := by
  obtain ⟨_, _, _, h⟩ := s.masters_eq; rw [h]
@[simp] theorem State.masters_zk (s : State) : s.masters.zk = s.zk := by
  obtain ⟨_, _, _, h⟩ := s.masters_eq; rw [h]
@[simp] theorem State.masters_sk (s : State) : s.masters.sk = s.sk := by
  obtain ⟨_, _, _, h⟩ := s.masters_eq; rw [h]
@[simp] theorem State.masters_pc (s : State) : s.masters.pc = s.pc := by
  obtain ⟨_, _, _, h⟩ := s.masters_eq; rw [h]
@[simp] theorem State.masters_ccr (s : State) : s.masters.ccr = s.ccr := by
  obtain ⟨_, _, _, h⟩ := s.masters_eq; rw [h]
@[simp] theorem State.masters_mac (s : State) : s.masters.mac = s.mac := by
  obtain ⟨_, _, _, h⟩ := s.masters_eq; rw [h]
@[simp] theorem State.masters_run (s : State) : s.masters.run = s.run := by
  obtain ⟨_, _, _, h⟩ := s.masters_eq; rw [h]
@[simp] theorem State.masters_hid (s : State) : s.masters.hid = s.hid := by
  obtain ⟨_, _, _, h⟩ := s.masters_eq; rw [h]
@[simp] theorem State.masters_platform (s : State) : s.masters.platform = s.platform := by
  obtain ⟨_, _, _, h⟩ := s.masters_eq; rw [h]
@[simp] theorem State.masters_script (s : State) : s.masters.script = s.script := by
  obtain ⟨_, _, _, h⟩ := s.masters_eq; rw [h]
@[simp] theorem State.masters_events (s : State) : s.masters.events = s.events := by
  obtain ⟨_, _, _, h⟩ := s.masters_eq; rw [h]
@[simp] theorem State.masters_draws (s : State) : s.masters.draws = s.draws := by
  obtain ⟨_, _, _, h⟩ := s.masters_eq; rw [h]
@[simp] theorem State.masters_stores (s : State) : s.masters.stores = s.stores := by
  obtain ⟨_, _, _, h⟩ := s.masters_eq; rw [h]

theorem State.Quiet.masters {s : State} (h : s.Quiet) : s.masters = s := State.masters_of_none h.no_masters

theorem State.Quiet.noteAccess {s : State} (h : s.Quiet) (sp : Space) (write : Bool) (cycles : List Addr) :
    s.noteAccess sp write cycles = s := by
  simp [State.noteAccess, h.busError, h.bkptHit]

theorem State.Quiet.readByte {s : State} (h : s.Quiet) (a : Addr) : s.readByte a = (s.peek .data a, s) := by
  simp [State.readByte, State.busReadByte, h.masters, h.busError, h.noteAccess]

theorem State.Quiet.readWord {s : State} (h : s.Quiet) (a : Addr) : s.readWord a = (s.peekWord .data a, s) := by
  simp [State.readWord, State.busReadWord, State.peekWord, h.masters, h.busError, h.noteAccess]

theorem State.Quiet.progRead {s : State} (h : s.Quiet) (a : Addr) :
    s.progRead a = (s.peekWord .program a, s) := by
  simp [State.progRead, State.busReadWord, State.peekWord, h.masters, h.busError, h.noteAccess]

@[simp] theorem State.poke_platform (sp : Space) (a : Addr) (v : Byte) (s : State) :
    (s.poke sp a v).platform = s.platform := by
  unfold State.poke; split <;> rfl

theorem State.Quiet.poke {s : State} (h : s.Quiet) (sp : Space) (a : Addr) (v : Byte) : (s.poke sp a v).Quiet :=
  h.of_platform (s.poke_platform sp a v)

theorem State.Quiet.writeByte {s : State} (h : s.Quiet) (a : Addr) (v : Byte) :
    s.writeByte a v = s.poke .data a v := by
  simp [State.writeByte, State.busWriteByte, h.masters, h.busError, (h.poke .data a v).noteAccess]

theorem State.Quiet.pokeWord {s : State} (h : s.Quiet) (a : Addr) (v : Word) : (pokeWord a v s).Quiet := by
  rw [Machine.pokeWord]
  exact (h.poke .data a (hi v)).poke .data (a + 1) (lo v)

theorem State.Quiet.writeWord {s : State} (h : s.Quiet) (a : Addr) (v : Word) :
    s.writeWord a v = Machine.pokeWord a v s := by
  simp only [State.writeWord, State.busWriteWord, h.masters, h.busError, Bool.false_eq_true, if_false,
    (h.poke .data a (hi v)).masters]
  rw [← Machine.pokeWord]
  exact (h.pokeWord a v).noteAccess _ _ _

theorem State.Quiet.pushWord {s : State} (h : s.Quiet) (v : Word) :
    s.pushWord v = (Machine.pokeWord s.skSp v s).setSkSp (s.skSp - 2) := by
  simp only [State.pushWord, h.writeWord]

theorem State.Quiet.setSkSp {s : State} (h : s.Quiet) (v : Addr) : (s.setSkSp v).Quiet := h.of_platform rfl

theorem State.Quiet.pullWord {s : State} (h : s.Quiet) :
    s.pullWord = (s.peekWord .data (s.skSp + 2), s.setSkSp (s.skSp + 2)) := by
  rw [State.pullWord, (h.setSkSp _).readWord]; rfl

theorem State.Quiet.pushByte {s : State} (h : s.Quiet) (v : Byte) :
    s.pushByte v = (s.poke .data (s.skSp + 1) v).setSkSp (s.skSp - 1) := by
  simp only [State.pushByte, h.writeByte]

theorem State.Quiet.pullByte {s : State} (h : s.Quiet) :
    s.pullByte = (s.peek .data (s.skSp + 2), s.setSkSp (s.skSp + 1)) := by
  simp only [State.pullByte, h.readByte]

/-! ### Reading what was stored -/

/-- Equal memories and an equal platform read equally. -/
theorem State.peek_congr {s t : State} (hm : t.mem = s.mem) (hp : t.pmem = s.pmem) (hq : t.platform = s.platform)
    (sp : Space) (x : Addr) : t.peek sp x = s.peek sp x := by
  cases sp <;> simp [State.peek, State.space, hm, hp, hq]

/-- Reading data space sees the data memory alone. -/
theorem State.peek_data {s t : State} (hm : t.mem = s.mem) (x : Addr) : t.peek .data x = s.peek .data x := by
  simp [State.peek, State.space, hm]

/-- The byte just stored in data space reads back. -/
theorem State.peek_poke_self {s : State} (h : Memory.wf s.mem = true) (a : Addr) (v : Byte) :
    (s.poke .data a v).peek .data a = v := Memory.get_set_self s.mem a.toNat v h

/-- A store to data space leaves every other byte of data space. -/
theorem State.peek_poke_ne (s : State) {a x : Addr} (v : Byte) (h : x ≠ a) :
    (s.poke .data a v).peek .data x = s.peek .data x :=
  Memory.get_set_ne s.mem v fun e => h (BitVec.eq_of_toNat_eq e)

/-- A store to data space leaves program space where the platform splits the spaces. -/
theorem State.peek_poke_program {s : State} (h : s.platform.splitSpaces = true) (a x : Addr) (v : Byte) :
    (s.poke .data a v).peek .program x = s.peek .program x := by
  simp [State.peek, State.space, h]

/-- A store to data space keeps the canonical form. -/
theorem State.wf_poke {s : State} (h : Memory.wf s.mem = true) (a : Addr) (v : Byte) :
    Memory.wf (s.poke .data a v).mem = true := Memory.wf_set s.mem a v h

/-- An address and the next one differ. -/
theorem succ_ne (a : Addr) : a + 1 ≠ a := by bv_omega

theorem State.wf_pokeWord {s : State} (h : Memory.wf s.mem = true) (a : Addr) (v : Word) :
    Memory.wf (pokeWord a v s).mem = true := by
  rw [pokeWord]
  exact State.wf_poke (State.wf_poke h a (hi v)) (a + 1) (lo v)

/-- The two bytes of a word just stored read back. -/
theorem State.peek_pokeWord_hi {s : State} (h : Memory.wf s.mem = true) (a : Addr) (v : Word) :
    (pokeWord a v s).peek .data a = hi v := by
  rw [pokeWord, State.peek_poke_ne _ _ (succ_ne a).symm, State.peek_poke_self h]

theorem State.peek_pokeWord_lo {s : State} (h : Memory.wf s.mem = true) (a : Addr) (v : Word) :
    (pokeWord a v s).peek .data (a + 1) = lo v := by
  rw [pokeWord]
  exact State.peek_poke_self (State.wf_poke h a (hi v)) (a + 1) (lo v)

/-- The word just stored reads back. -/
theorem State.peekWord_pokeWord {s : State} (h : Memory.wf s.mem = true) (a : Addr) (v : Word) :
    (pokeWord a v s).peekWord .data a = v := by
  rw [State.peekWord, State.peek_pokeWord_hi h, State.peek_pokeWord_lo h, hi_append_lo]

/-- A word store leaves every byte but its two. -/
theorem State.peek_pokeWord_ne (s : State) {a x : Addr} (v : Word) (h : x ∉ wordAt a) :
    (pokeWord a v s).peek .data x = s.peek .data x := by
  simp only [wordAt, List.mem_cons, List.not_mem_nil, or_false, not_or] at h
  rw [pokeWord, State.peek_poke_ne _ _ h.2, State.peek_poke_ne _ _ h.1]

/-- A word store leaves a word that shares no byte with it. -/
theorem State.peekWord_pokeWord_ne (s : State) {a x : Addr} (v : Word) (h0 : x ∉ wordAt a) (h1 : x + 1 ∉ wordAt a) :
    (pokeWord a v s).peekWord .data x = s.peekWord .data x := by
  rw [State.peekWord, State.peekWord, State.peek_pokeWord_ne s v h0, State.peek_pokeWord_ne s v h1]

/-! ### Frames -/

/-- A state is framed by itself, with nothing changed. -/
theorem Frame.refl (s : State) : Frame [] [] s s :=
  ⟨fun l _ => by cases l <;> simp [Loc.kept], fun _ _ => rfl, fun _ _ => rfl⟩

/-- A frame may be read as a wider one. -/
theorem Frame.mono {may may' : List Loc} {bytes bytes' : List Addr} {s t : State} (h : Frame may bytes s t)
    (h1 : ∀ l, l ∈ may → l ∈ may') (h2 : ∀ x, x ∈ bytes → x ∈ bytes') : Frame may' bytes' s t :=
  ⟨fun l n => h.parts l fun m => n (h1 l m), fun x n => h.data x fun m => n (h2 x m), h.program⟩

/-- Frames compose. -/
theorem Frame.trans {may may' : List Loc} {bytes bytes' : List Addr} {s t u : State} (h : Frame may bytes s t)
    (hp : t.platform = s.platform) (k : Frame may' bytes' t u) : Frame (may ++ may') (bytes ++ bytes') s u := by
  refine ⟨fun l n => ?_, fun x n => ?_, fun sp x => ?_⟩
  · simp only [List.mem_append, not_or] at n
    have a := h.parts l n.1
    have b := k.parts l n.2
    cases l <;> simp_all [Loc.kept]
  · simp only [List.mem_append, not_or] at n
    exact (k.data x n.2).trans (h.data x n.1)
  · exact (k.program (hp ▸ sp) x).trans (h.program sp x)

/-- A state with the same memory and platform is framed when its other parts are. -/
theorem Frame.of_parts {may : List Loc} {s t : State} (hm : t.mem = s.mem) (hp : t.pmem = s.pmem)
    (hq : t.platform = s.platform) (h : ∀ l, l ∉ may → l.kept s t) : Frame may [] s t :=
  ⟨h, fun x _ => State.peek_congr hm hp hq .data x, fun _ x => State.peek_congr hm hp hq .program x⟩

/-- A store of a byte to data space changes that byte. -/
theorem Frame.poke (a : Addr) (v : Byte) (s : State) : Frame [] [a] s (s.poke .data a v) :=
  ⟨fun l _ => by cases l <;> simp [Loc.kept, State.poke],
    fun _ n => State.peek_poke_ne s v (by simpa using n), fun sp x => State.peek_poke_program sp a x v⟩

/-- A store of a word to data space changes its two bytes. -/
theorem Frame.pokeWord (a : Addr) (v : Word) (s : State) : Frame [] (wordAt a) s (pokeWord a v s) := by
  rw [Machine.pokeWord]
  exact (Frame.poke a (hi v) s).trans rfl (Frame.poke (a + 1) (lo v) _)

/-! ### The invariant, on every platform -/

/-- A state with the same memories and program counter keeps the invariant. -/
theorem State.Inv.congr {s t : State} (h : s.Inv) (hm : t.mem = s.mem) (hp : t.pmem = s.pmem) (hc : t.pc = s.pc) :
    t.Inv := ⟨hm ▸ h.mem_wf, hp ▸ h.pmem_wf, hc ▸ h.pc_even⟩

/-- Bit 0 of an address with bit 0 forced to 0. -/
theorem even20_getLsbD (a : Addr) : (even20 a).getLsbD 0 = false := by simp [even20]

/-- The memories keep their canonical form and the program counter stays or is even. -/
structure Kept (s t : State) : Prop where
  inv : s.Inv → t.Inv
  platform : t.platform = s.platform

theorem Kept.refl (s : State) : Kept s s := ⟨id, rfl⟩

theorem Kept.trans {s t u : State} (h : Kept s t) (k : Kept t u) : Kept s u :=
  ⟨fun i => k.inv (h.inv i), k.platform.trans h.platform⟩

theorem Kept.congr {s t : State} (hm : t.mem = s.mem) (hp : t.pmem = s.pmem) (hc : t.pc = s.pc)
    (hq : t.platform = s.platform) : Kept s t := ⟨fun i => i.congr hm hp hc, hq⟩

theorem Kept.bump (s : State) : Kept s s.bump := Kept.congr rfl rfl rfl rfl

theorem Kept.setSkSp (a : Addr) (s : State) : Kept s (s.setSkSp a) := Kept.congr rfl rfl rfl rfl

theorem Kept.writeCcr (c : Ccr) (s : State) : Kept s (s.writeCcr c) := Kept.congr rfl rfl rfl rfl

theorem Kept.poke (sp : Space) (a : Addr) (v : Byte) (s : State) : Kept s (s.poke sp a v) := by
  refine ⟨fun i => ?_, s.poke_platform sp a v⟩
  unfold State.poke
  split
  · exact ⟨i.mem_wf, Memory.wf_set _ _ _ i.pmem_wf, i.pc_even⟩
  · exact ⟨Memory.wf_set _ _ _ i.mem_wf, i.pmem_wf, i.pc_even⟩

theorem Kept.jumpTo (a : Addr) (s : State) : Kept s (s.jumpTo a) :=
  ⟨fun i => ⟨i.mem_wf, i.pmem_wf, even20_getLsbD a⟩, rfl⟩

/-- The sum of two even addresses is even. -/
theorem even_add {a b : Addr} (ha : a.getLsbD 0 = false) (hb : b.getLsbD 0 = false) : (a + b).getLsbD 0 = false := by
  simp only [BitVec.getLsbD, Nat.testBit_zero, BitVec.toNat_add, decide_eq_false_iff_not] at *
  omega

/-- Going on by an even length keeps bit 0 of the program counter. -/
theorem Kept.advance {len : Addr} (h : len.getLsbD 0 = false) (s : State) : Kept s (s.advance len) :=
  ⟨fun i => ⟨i.mem_wf, i.pmem_wf, even_add i.pc_even h⟩, rfl⟩

theorem Kept.noteAccess (sp : Space) (write : Bool) (cycles : List Addr) (s : State) :
    Kept s (s.noteAccess sp write cycles) := by
  have h1 : Kept s (if s.busError sp write cycles then s.noteBerr else s) := by
    split
    · unfold State.noteBerr
      split
      · exact ⟨fun i => ⟨i.mem_wf, i.pmem_wf, even20_getLsbD _⟩, rfl⟩
      · split
        · exact Kept.refl s
        · exact Kept.congr rfl rfl rfl rfl
    · exact Kept.refl s
  unfold State.noteAccess
  generalize (if s.busError sp write cycles then s.noteBerr else s) = s1 at h1 ⊢
  dsimp only
  split
  · exact h1.trans (Kept.congr rfl rfl rfl rfl)
  · exact h1

theorem Kept.applyWrites (ws : List MasterWrite) (s : State) : Kept s (s.applyWrites ws) := by
  induction ws generalizing s with
  | nil => exact Kept.refl s
  | cons w rest ih =>
    have h : Kept s { s.poke w.space w.addr w.value with stores := s.stores } :=
      (Kept.poke w.space w.addr w.value s).trans (Kept.congr rfl rfl rfl rfl)
    exact h.trans (ih _)

theorem Kept.masters (s : State) : Kept s s.masters := by
  unfold State.masters
  split
  · split
    · exact Kept.refl s
    · rename_i now later _
      have h : Kept s { s with pins := { s.pins with writes := later } } := Kept.congr rfl rfl rfl rfl
      exact h.trans (Kept.applyWrites now _)
  · exact Kept.refl s

theorem Kept.busReadWord (sp : Space) (a : Addr) (s : State) : Kept s (s.busReadWord sp a).2 := by
  have h := (Kept.masters s).trans (Kept.masters s.masters)
  unfold State.busReadWord
  dsimp only
  split
  · exact h.trans (Kept.bump _)
  · exact h

theorem Kept.busReadLong (sp : Space) (a : Addr) (s : State) : Kept s (s.busReadLong sp a).2 := by
  have h := (((Kept.masters s).trans (Kept.masters s.masters)).trans (Kept.masters _)).trans (Kept.masters _)
  unfold State.busReadLong
  dsimp only
  split
  · exact h.trans ((Kept.bump _).trans (Kept.bump _))
  · exact h

theorem Kept.busReadByte (sp : Space) (a : Addr) (s : State) : Kept s (s.busReadByte sp a).2 := by
  have h := Kept.masters s
  unfold State.busReadByte
  dsimp only
  split
  · exact h.trans (Kept.bump _)
  · exact h

theorem Kept.readByte (a : Addr) (s : State) : Kept s (s.readByte a).2 :=
  (Kept.busReadByte .data a s).trans (Kept.noteAccess .data false [a] _)

theorem Kept.readWord (a : Addr) (s : State) : Kept s (s.readWord a).2 :=
  (Kept.busReadWord .data a s).trans (Kept.noteAccess .data false (wordCycles a) _)

theorem Kept.progRead (a : Addr) (s : State) : Kept s (s.progRead a).2 :=
  (Kept.busReadWord .program a s).trans (Kept.noteAccess .program false (wordCycles a) _)

theorem Kept.pokeMaybe (sp : Space) (a : Addr) (v : Byte) (s : State) : Kept s (s.pokeMaybe sp a v) :=
  (Kept.bump s).trans (Kept.poke sp a _ s.bump)

theorem Kept.busWriteByte (sp : Space) (a : Addr) (v : Byte) (s : State) : Kept s (s.busWriteByte sp a v) := by
  unfold State.busWriteByte
  dsimp only
  split
  · exact (Kept.masters s).trans (Kept.pokeMaybe sp a v _)
  · exact (Kept.masters s).trans (Kept.poke sp a v _)

theorem Kept.busWriteWord (sp : Space) (a : Addr) (v : Word) (s : State) : Kept s (s.busWriteWord sp a v) := by
  unfold State.busWriteWord
  dsimp only
  split
  · exact (Kept.masters s).trans ((Kept.pokeMaybe sp a (hi v) _).trans
      ((Kept.masters _).trans (Kept.pokeMaybe sp (a + 1) (lo v) _)))
  · exact (Kept.masters s).trans ((Kept.poke sp a (hi v) _).trans
      ((Kept.masters _).trans (Kept.poke sp (a + 1) (lo v) _)))

theorem Kept.busWriteLong (sp : Space) (a : Addr) (high low : Word) (s : State) :
    Kept s (s.busWriteLong sp a high low) := by
  unfold State.busWriteLong
  dsimp only
  split
  · exact ((((Kept.masters s).trans (Kept.pokeMaybe sp _ _ _)).trans ((Kept.masters _).trans
      (Kept.pokeMaybe sp _ _ _))).trans ((Kept.masters _).trans (Kept.pokeMaybe sp _ _ _))).trans
        ((Kept.masters _).trans (Kept.pokeMaybe sp _ _ _))
  · exact ((((Kept.masters s).trans (Kept.poke sp _ _ _)).trans ((Kept.masters _).trans
      (Kept.poke sp _ _ _))).trans ((Kept.masters _).trans (Kept.poke sp _ _ _))).trans
        ((Kept.masters _).trans (Kept.poke sp _ _ _))

theorem Kept.writeByte (a : Addr) (v : Byte) (s : State) : Kept s (s.writeByte a v) :=
  (Kept.busWriteByte .data a v s).trans (Kept.noteAccess _ _ _ _)

theorem Kept.writeWord (a : Addr) (v : Word) (s : State) : Kept s (s.writeWord a v) :=
  (Kept.busWriteWord .data a v s).trans (Kept.noteAccess _ _ _ _)

theorem Kept.pushWord (v : Word) (s : State) : Kept s (s.pushWord v) :=
  (Kept.writeWord s.skSp v s).trans (Kept.congr rfl rfl rfl rfl)

theorem Kept.pullWord (s : State) : Kept s s.pullWord.2 :=
  (Kept.setSkSp (s.skSp + 2) s).trans (Kept.readWord (s.skSp + 2) _)

theorem Kept.pushByte (v : Byte) (s : State) : Kept s (s.pushByte v) :=
  (Kept.writeByte _ v s).trans (Kept.congr rfl rfl rfl rfl)

theorem Kept.pullByte (s : State) : Kept s s.pullByte.2 :=
  (Kept.readByte _ s).trans (Kept.congr rfl rfl rfl rfl)

theorem Kept.pushFrame (ret : Addr) (s : State) : Kept s (s.pushFrame ret) :=
  (Kept.pushWord _ s).trans (Kept.pushWord _ _)

theorem Kept.acknowledge (k : ExcKind) (s : State) : Kept s (s.acknowledge k) := by
  cases k <;> exact Kept.congr rfl rfl rfl rfl

theorem Kept.looseBytes (places : List Addr) (s : State) : Kept s (s.looseBytes places) := by
  induction places generalizing s with
  | nil => exact Kept.refl s
  | cons a rest ih => exact ((Kept.bump s).trans (Kept.poke .data a _ s.bump)).trans (ih _)

theorem Kept.abandonFrame (top : Addr) (words : Nat) (s : State) : Kept s (s.abandonFrame top words) :=
  (Kept.looseBytes (frameAddresses top words) s).trans (Kept.congr rfl rfl rfl rfl)

theorem Kept.berrAtOnce (error : Bool) (s : State) : Kept s (s.berrAtOnce error) := by
  cases error <;> exact Kept.congr rfl rfl rfl rfl

theorem Kept.enterHandler (k : ExcKind) (s : State) : Kept s (s.enterHandler k) := by
  unfold State.enterHandler
  have h := Kept.readWord (vectorAddress (vectorNumber s.platform k)) s
  dsimp only
  split
  · exact h.trans ((Kept.jumpTo _ _).trans (Kept.congr rfl rfl rfl rfl))
  · exact h

/-- Taking an exception keeps the invariant and the platform, on every platform. -/
theorem Kept.takeException (k : ExcKind) (ret : Addr) (s : State) : Kept s (s.takeException k ret) := by
  have h0 : Kept s (s.setRun .running) := Kept.congr rfl rfl rfl rfl
  have h1 := h0.trans (Kept.pushWord (offset ret) _)
  have h2 := h1.trans (Kept.pushWord (s.ccr.pack (bank ret)) _)
  have h3 := h2.trans ((Kept.acknowledge k _).trans (Kept.enterHandler k _))
  unfold State.takeException
  dsimp only
  split
  · split
    · split
      · exact h3.trans (Kept.berrAtOnce _ _)
      · exact h3.trans (Kept.abandonFrame _ _ _)
    · exact h2.trans (Kept.abandonFrame _ _ _)
  · exact h1.trans (Kept.abandonFrame _ _ _)

theorem Kept.returnFromException (s : State) : Kept s s.returnFromException :=
  (Kept.pullWord s).trans ((Kept.writeCcr (Ccr.unpack s.pullWord.1) _).trans
    ((Kept.pullWord _).trans (Kept.jumpTo _ _)))

theorem Kept.returnFromSubroutine (s : State) : Kept s s.returnFromSubroutine :=
  (Kept.pullWord s).trans ((Kept.pullWord _).trans (Kept.jumpTo _ _))

end Sys2Proof.Machine
end

