-- ==== Sys2Proof/Laws/PerInstr.lean ====
section
/-!
SUPPORT. The families of statements made per instruction (LAWS.json).
-/

namespace Sys2Proof.Laws

/-- One, two or three words. -/
def Short (ws : List Word) : Prop := ws.length = 1 ∨ ws.length = 2 ∨ ws.length = 3

theorem short1 (a : Word) : Short [a] := Or.inl rfl
theorem short2 (a b : Word) : Short [a, b] := Or.inr (Or.inl rfl)
theorem short3 (a b c : Word) : Short [a, b, c] := Or.inr (Or.inr rfl)

theorem encByte_short (op b : Byte) : Short (encByte op b) := short1 _
theorem encInh_short (pre op : Byte) : Short (encInh pre op) := short1 _
theorem encWord_short (pre op : Byte) (w : Word) : Short (encWord pre op w) := short2 _ _

theorem encMem_short (base pre : Byte) (m : MemOp) : Short (encMem base pre m) := by
  cases m
  · exact encByte_short _ _
  · exact encWord_short _ _ _
  · exact encWord_short _ _ _
  · exact encInh_short _ _

theorem encSrc8_short (base : Byte) (src : Src8) : Short (encSrc8 base src) := by
  cases src
  · exact encByte_short _ _
  · exact encMem_short _ _ _

theorem encMemD_short (base : Byte) (m : MemOp) : Short (encMemD base m) := by
  cases m
  · exact encByte_short _ _
  · exact encWord_short _ _ _
  · exact encWord_short _ _ _
  · exact encInh_short _ _

theorem encSrcD_short (base : Byte) (src : Src16) : Short (encSrcD base src) := by
  cases src
  · exact encByte_short _ _
  · exact encWord_short _ _ _
  · exact encMemD_short _ _

theorem encMemE_short (base : Byte) (m : MemOp) : Short (encMemE base m) := by
  cases m
  · exact encByte_short _ _
  · exact encWord_short _ _ _
  · exact encWord_short _ _ _
  · exact encInh_short _ _

theorem encSrcE_short (base : Byte) (src : Src16) : Short (encSrcE base src) := by
  cases src
  · exact encByte_short _ _
  · exact encWord_short _ _ _
  · exact encMemE_short _ _

theorem encSrcI_short (base immOp : Byte) (src : Src16) : Short (encSrcI base immOp src) := by
  cases src
  · exact encByte_short _ _
  · exact encWord_short _ _ _
  · exact encMem_short _ _ _

theorem encBit_short (base mm : Byte) (m : MemOp) : Short (encBit base mm m) := by
  cases m
  · exact encWord_short _ _ _
  · exact short2 _ _
  · exact short2 _ _
  · exact encInh_short _ _

theorem encBitW_short (base : Byte) (mmmm : Word) (m : MemOp) : Short (encBitW base mmmm m) := by
  cases m
  · exact short2 _ _
  · exact short3 _ _ _
  · exact short3 _ _ _
  · exact short2 _ _

theorem encBr_short (base8 base mm : Byte) (op : BrOp) : Short (encBr base8 base mm op) := by
  cases op
  · exact short2 _ _
  · exact short3 _ _ _
  · exact short3 _ _ _

theorem encJmp_short (extOp indOp : Byte) (op : JmpOp) : Short (encJmp extOp indOp op) := by
  cases op <;> exact short2 _ _

theorem encMov_short (fromOp toOp extOp : Byte) (op : MovOp) : Short (encMov fromOp toOp extOp op) := by
  cases op
  · exact short2 _ _
  · exact short2 _ _
  · exact short3 _ _ _

theorem encImm_short (op : Byte) (i : Imm) : Short (encImm op i) := by
  cases i
  · exact encByte_short _ _
  · exact encWord_short _ _ _

/-- Every instruction is two, four or six bytes long (30_encoding.md R155). -/
def EncodedLength.Statement (i : Instr) : Prop := i.length = 2 ∨ i.length = 4 ∨ i.length = 6

theorem EncodedLength.of_short {i : Instr} (h : Short (encode i)) : EncodedLength.Statement i := by
  rcases h with h | h | h <;> simp [EncodedLength.Statement, Instr.length, h]

theorem EncodedLength.com (m : MemOp) : EncodedLength.Statement (.com m) :=
  EncodedLength.of_short (encMem_short _ _ _)
theorem EncodedLength.dec (m : MemOp) : EncodedLength.Statement (.dec m) :=
  EncodedLength.of_short (encMem_short _ _ _)
theorem EncodedLength.neg (m : MemOp) : EncodedLength.Statement (.neg m) :=
  EncodedLength.of_short (encMem_short _ _ _)
theorem EncodedLength.inc (m : MemOp) : EncodedLength.Statement (.inc m) :=
  EncodedLength.of_short (encMem_short _ _ _)
theorem EncodedLength.asl (m : MemOp) : EncodedLength.Statement (.asl m) :=
  EncodedLength.of_short (encMem_short _ _ _)
theorem EncodedLength.clr (m : MemOp) : EncodedLength.Statement (.clr m) :=
  EncodedLength.of_short (encMem_short _ _ _)
theorem EncodedLength.tst (m : MemOp) : EncodedLength.Statement (.tst m) :=
  EncodedLength.of_short (encMem_short _ _ _)
theorem EncodedLength.bclr (mm : Byte) (m : MemOp) : EncodedLength.Statement (.bclr mm m) :=
  EncodedLength.of_short (encBit_short _ _ _)
theorem EncodedLength.bset (mm : Byte) (m : MemOp) : EncodedLength.Statement (.bset mm m) :=
  EncodedLength.of_short (encBit_short _ _ _)
theorem EncodedLength.brclr (mm : Byte) (op : BrOp) : EncodedLength.Statement (.brclr mm op) :=
  EncodedLength.of_short (encBr_short _ _ _ _)
theorem EncodedLength.brset (mm : Byte) (op : BrOp) : EncodedLength.Statement (.brset mm op) :=
  EncodedLength.of_short (encBr_short _ _ _ _)
theorem EncodedLength.rol (m : MemOp) : EncodedLength.Statement (.rol m) :=
  EncodedLength.of_short (encMem_short _ _ _)
theorem EncodedLength.asr (m : MemOp) : EncodedLength.Statement (.asr m) :=
  EncodedLength.of_short (encMem_short _ _ _)
theorem EncodedLength.ror (m : MemOp) : EncodedLength.Statement (.ror m) :=
  EncodedLength.of_short (encMem_short _ _ _)
theorem EncodedLength.lsr (m : MemOp) : EncodedLength.Statement (.lsr m) :=
  EncodedLength.of_short (encMem_short _ _ _)
theorem EncodedLength.movb (op : MovOp) : EncodedLength.Statement (.movb op) :=
  EncodedLength.of_short (encMov_short _ _ _ _)
theorem EncodedLength.movw (op : MovOp) : EncodedLength.Statement (.movw op) :=
  EncodedLength.of_short (encMov_short _ _ _ _)
theorem EncodedLength.pshm (mask : Byte) : EncodedLength.Statement (.pshm mask) :=
  EncodedLength.of_short (encByte_short _ _)
theorem EncodedLength.pulm (mask : Byte) : EncodedLength.Statement (.pulm mask) :=
  EncodedLength.of_short (encByte_short _ _)
theorem EncodedLength.bsr (rr : Byte) : EncodedLength.Statement (.bsr rr) :=
  EncodedLength.of_short (encByte_short _ _)
theorem EncodedLength.aix (i : Imm) : EncodedLength.Statement (.aix i) :=
  EncodedLength.of_short (encImm_short _ _)
theorem EncodedLength.aiy (i : Imm) : EncodedLength.Statement (.aiy i) :=
  EncodedLength.of_short (encImm_short _ _)
theorem EncodedLength.aiz (i : Imm) : EncodedLength.Statement (.aiz i) :=
  EncodedLength.of_short (encImm_short _ _)
theorem EncodedLength.ais (i : Imm) : EncodedLength.Statement (.ais i) :=
  EncodedLength.of_short (encImm_short _ _)
theorem EncodedLength.suba (src : Src8) : EncodedLength.Statement (.suba src) :=
  EncodedLength.of_short (encSrc8_short _ _)
theorem EncodedLength.adda (src : Src8) : EncodedLength.Statement (.adda src) :=
  EncodedLength.of_short (encSrc8_short _ _)
theorem EncodedLength.sbca (src : Src8) : EncodedLength.Statement (.sbca src) :=
  EncodedLength.of_short (encSrc8_short _ _)
theorem EncodedLength.adca (src : Src8) : EncodedLength.Statement (.adca src) :=
  EncodedLength.of_short (encSrc8_short _ _)
theorem EncodedLength.eora (src : Src8) : EncodedLength.Statement (.eora src) :=
  EncodedLength.of_short (encSrc8_short _ _)
theorem EncodedLength.ldaa (src : Src8) : EncodedLength.Statement (.ldaa src) :=
  EncodedLength.of_short (encSrc8_short _ _)
theorem EncodedLength.anda (src : Src8) : EncodedLength.Statement (.anda src) :=
  EncodedLength.of_short (encSrc8_short _ _)
theorem EncodedLength.oraa (src : Src8) : EncodedLength.Statement (.oraa src) :=
  EncodedLength.of_short (encSrc8_short _ _)
theorem EncodedLength.cmpa (src : Src8) : EncodedLength.Statement (.cmpa src) :=
  EncodedLength.of_short (encSrc8_short _ _)
theorem EncodedLength.bita (src : Src8) : EncodedLength.Statement (.bita src) :=
  EncodedLength.of_short (encSrc8_short _ _)
theorem EncodedLength.staa (m : MemOp) : EncodedLength.Statement (.staa m) :=
  EncodedLength.of_short (encMem_short _ _ _)
theorem EncodedLength.jmp (op : JmpOp) : EncodedLength.Statement (.jmp op) :=
  EncodedLength.of_short (encJmp_short _ _ _)
theorem EncodedLength.cpx (src : Src16) : EncodedLength.Statement (.cpx src) :=
  EncodedLength.of_short (encSrcI_short _ _ _)
theorem EncodedLength.cpy (src : Src16) : EncodedLength.Statement (.cpy src) :=
  EncodedLength.of_short (encSrcI_short _ _ _)
theorem EncodedLength.cpz (src : Src16) : EncodedLength.Statement (.cpz src) :=
  EncodedLength.of_short (encSrcI_short _ _ _)
theorem EncodedLength.cps (src : Src16) : EncodedLength.Statement (.cps src) :=
  EncodedLength.of_short (encSrcI_short _ _ _)
theorem EncodedLength.mac (xoyo : Byte) : EncodedLength.Statement (.mac xoyo) :=
  EncodedLength.of_short (encByte_short _ _)
theorem EncodedLength.adde (src : Src16) : EncodedLength.Statement (.adde src) :=
  EncodedLength.of_short (encSrcE_short _ _)
theorem EncodedLength.subd (src : Src16) : EncodedLength.Statement (.subd src) :=
  EncodedLength.of_short (encSrcD_short _ _)
theorem EncodedLength.addd (src : Src16) : EncodedLength.Statement (.addd src) :=
  EncodedLength.of_short (encSrcD_short _ _)
theorem EncodedLength.sbcd (src : Src16) : EncodedLength.Statement (.sbcd src) :=
  EncodedLength.of_short (encSrcD_short _ _)
theorem EncodedLength.adcd (src : Src16) : EncodedLength.Statement (.adcd src) :=
  EncodedLength.of_short (encSrcD_short _ _)
theorem EncodedLength.eord (src : Src16) : EncodedLength.Statement (.eord src) :=
  EncodedLength.of_short (encSrcD_short _ _)
theorem EncodedLength.ldd (src : Src16) : EncodedLength.Statement (.ldd src) :=
  EncodedLength.of_short (encSrcD_short _ _)
theorem EncodedLength.andd (src : Src16) : EncodedLength.Statement (.andd src) :=
  EncodedLength.of_short (encSrcD_short _ _)
theorem EncodedLength.ord (src : Src16) : EncodedLength.Statement (.ord src) :=
  EncodedLength.of_short (encSrcD_short _ _)
theorem EncodedLength.cpd (src : Src16) : EncodedLength.Statement (.cpd src) :=
  EncodedLength.of_short (encSrcD_short _ _)
theorem EncodedLength.jsr (op : JmpOp) : EncodedLength.Statement (.jsr op) :=
  EncodedLength.of_short (encJmp_short _ _ _)
theorem EncodedLength.std (m : MemOp) : EncodedLength.Statement (.std m) :=
  EncodedLength.of_short (encMemD_short _ _)
theorem EncodedLength.stx (m : MemOp) : EncodedLength.Statement (.stx m) :=
  EncodedLength.of_short (encMem_short _ _ _)
theorem EncodedLength.sty (m : MemOp) : EncodedLength.Statement (.sty m) :=
  EncodedLength.of_short (encMem_short _ _ _)
theorem EncodedLength.stz (m : MemOp) : EncodedLength.Statement (.stz m) :=
  EncodedLength.of_short (encMem_short _ _ _)
theorem EncodedLength.sts (m : MemOp) : EncodedLength.Statement (.sts m) :=
  EncodedLength.of_short (encMem_short _ _ _)
theorem EncodedLength.bra (rr : Byte) : EncodedLength.Statement (.bra rr) :=
  EncodedLength.of_short (encByte_short _ _)
theorem EncodedLength.brn (rr : Byte) : EncodedLength.Statement (.brn rr) :=
  EncodedLength.of_short (encByte_short _ _)
theorem EncodedLength.bhi (rr : Byte) : EncodedLength.Statement (.bhi rr) :=
  EncodedLength.of_short (encByte_short _ _)
theorem EncodedLength.bls (rr : Byte) : EncodedLength.Statement (.bls rr) :=
  EncodedLength.of_short (encByte_short _ _)
theorem EncodedLength.bcc (rr : Byte) : EncodedLength.Statement (.bcc rr) :=
  EncodedLength.of_short (encByte_short _ _)
theorem EncodedLength.bcs (rr : Byte) : EncodedLength.Statement (.bcs rr) :=
  EncodedLength.of_short (encByte_short _ _)
theorem EncodedLength.bne (rr : Byte) : EncodedLength.Statement (.bne rr) :=
  EncodedLength.of_short (encByte_short _ _)
theorem EncodedLength.beq (rr : Byte) : EncodedLength.Statement (.beq rr) :=
  EncodedLength.of_short (encByte_short _ _)
theorem EncodedLength.bvc (rr : Byte) : EncodedLength.Statement (.bvc rr) :=
  EncodedLength.of_short (encByte_short _ _)
theorem EncodedLength.bvs (rr : Byte) : EncodedLength.Statement (.bvs rr) :=
  EncodedLength.of_short (encByte_short _ _)
theorem EncodedLength.bpl (rr : Byte) : EncodedLength.Statement (.bpl rr) :=
  EncodedLength.of_short (encByte_short _ _)
theorem EncodedLength.bmi (rr : Byte) : EncodedLength.Statement (.bmi rr) :=
  EncodedLength.of_short (encByte_short _ _)
theorem EncodedLength.bge (rr : Byte) : EncodedLength.Statement (.bge rr) :=
  EncodedLength.of_short (encByte_short _ _)
theorem EncodedLength.blt (rr : Byte) : EncodedLength.Statement (.blt rr) :=
  EncodedLength.of_short (encByte_short _ _)
theorem EncodedLength.bgt (rr : Byte) : EncodedLength.Statement (.bgt rr) :=
  EncodedLength.of_short (encByte_short _ _)
theorem EncodedLength.ble (rr : Byte) : EncodedLength.Statement (.ble rr) :=
  EncodedLength.of_short (encByte_short _ _)
theorem EncodedLength.subb (src : Src8) : EncodedLength.Statement (.subb src) :=
  EncodedLength.of_short (encSrc8_short _ _)
theorem EncodedLength.addb (src : Src8) : EncodedLength.Statement (.addb src) :=
  EncodedLength.of_short (encSrc8_short _ _)
theorem EncodedLength.sbcb (src : Src8) : EncodedLength.Statement (.sbcb src) :=
  EncodedLength.of_short (encSrc8_short _ _)
theorem EncodedLength.adcb (src : Src8) : EncodedLength.Statement (.adcb src) :=
  EncodedLength.of_short (encSrc8_short _ _)
theorem EncodedLength.eorb (src : Src8) : EncodedLength.Statement (.eorb src) :=
  EncodedLength.of_short (encSrc8_short _ _)
theorem EncodedLength.ldab (src : Src8) : EncodedLength.Statement (.ldab src) :=
  EncodedLength.of_short (encSrc8_short _ _)
theorem EncodedLength.andb (src : Src8) : EncodedLength.Statement (.andb src) :=
  EncodedLength.of_short (encSrc8_short _ _)
theorem EncodedLength.orab (src : Src8) : EncodedLength.Statement (.orab src) :=
  EncodedLength.of_short (encSrc8_short _ _)
theorem EncodedLength.cmpb (src : Src8) : EncodedLength.Statement (.cmpb src) :=
  EncodedLength.of_short (encSrc8_short _ _)
theorem EncodedLength.bitb (src : Src8) : EncodedLength.Statement (.bitb src) :=
  EncodedLength.of_short (encSrc8_short _ _)
theorem EncodedLength.stab (m : MemOp) : EncodedLength.Statement (.stab m) :=
  EncodedLength.of_short (encMem_short _ _ _)
theorem EncodedLength.ldx (src : Src16) : EncodedLength.Statement (.ldx src) :=
  EncodedLength.of_short (encSrcI_short _ _ _)
theorem EncodedLength.ldy (src : Src16) : EncodedLength.Statement (.ldy src) :=
  EncodedLength.of_short (encSrcI_short _ _ _)
theorem EncodedLength.ldz (src : Src16) : EncodedLength.Statement (.ldz src) :=
  EncodedLength.of_short (encSrcI_short _ _ _)
theorem EncodedLength.lds (src : Src16) : EncodedLength.Statement (.lds src) :=
  EncodedLength.of_short (encSrcI_short _ _ _)
theorem EncodedLength.rmac (xoyo : Byte) : EncodedLength.Statement (.rmac xoyo) :=
  EncodedLength.of_short (encByte_short _ _)
theorem EncodedLength.comw (m : MemOp) : EncodedLength.Statement (.comw m) :=
  EncodedLength.of_short (encMem_short _ _ _)
theorem EncodedLength.decw (m : MemOp) : EncodedLength.Statement (.decw m) :=
  EncodedLength.of_short (encMem_short _ _ _)
theorem EncodedLength.negw (m : MemOp) : EncodedLength.Statement (.negw m) :=
  EncodedLength.of_short (encMem_short _ _ _)
theorem EncodedLength.incw (m : MemOp) : EncodedLength.Statement (.incw m) :=
  EncodedLength.of_short (encMem_short _ _ _)
theorem EncodedLength.aslw (m : MemOp) : EncodedLength.Statement (.aslw m) :=
  EncodedLength.of_short (encMem_short _ _ _)
theorem EncodedLength.clrw (m : MemOp) : EncodedLength.Statement (.clrw m) :=
  EncodedLength.of_short (encMem_short _ _ _)
theorem EncodedLength.tstw (m : MemOp) : EncodedLength.Statement (.tstw m) :=
  EncodedLength.of_short (encMem_short _ _ _)
theorem EncodedLength.bclrw (mmmm : Word) (m : MemOp) : EncodedLength.Statement (.bclrw mmmm m) :=
  EncodedLength.of_short (encBitW_short _ _ _)
theorem EncodedLength.bsetw (mmmm : Word) (m : MemOp) : EncodedLength.Statement (.bsetw mmmm m) :=
  EncodedLength.of_short (encBitW_short _ _ _)
theorem EncodedLength.rolw (m : MemOp) : EncodedLength.Statement (.rolw m) :=
  EncodedLength.of_short (encMem_short _ _ _)
theorem EncodedLength.asrw (m : MemOp) : EncodedLength.Statement (.asrw m) :=
  EncodedLength.of_short (encMem_short _ _ _)
theorem EncodedLength.rorw (m : MemOp) : EncodedLength.Statement (.rorw m) :=
  EncodedLength.of_short (encMem_short _ _ _)
theorem EncodedLength.lsrw (m : MemOp) : EncodedLength.Statement (.lsrw m) :=
  EncodedLength.of_short (encMem_short _ _ _)
theorem EncodedLength.nop : EncodedLength.Statement .nop :=
  EncodedLength.of_short (encInh_short _ _)
theorem EncodedLength.tyx : EncodedLength.Statement .tyx :=
  EncodedLength.of_short (encInh_short _ _)
theorem EncodedLength.tzx : EncodedLength.Statement .tzx :=
  EncodedLength.of_short (encInh_short _ _)
theorem EncodedLength.tsx : EncodedLength.Statement .tsx :=
  EncodedLength.of_short (encInh_short _ _)
theorem EncodedLength.txy : EncodedLength.Statement .txy :=
  EncodedLength.of_short (encInh_short _ _)
theorem EncodedLength.tzy : EncodedLength.Statement .tzy :=
  EncodedLength.of_short (encInh_short _ _)
theorem EncodedLength.tsy : EncodedLength.Statement .tsy :=
  EncodedLength.of_short (encInh_short _ _)
theorem EncodedLength.txz : EncodedLength.Statement .txz :=
  EncodedLength.of_short (encInh_short _ _)
theorem EncodedLength.tyz : EncodedLength.Statement .tyz :=
  EncodedLength.of_short (encInh_short _ _)
theorem EncodedLength.tsz : EncodedLength.Statement .tsz :=
  EncodedLength.of_short (encInh_short _ _)
theorem EncodedLength.come : EncodedLength.Statement .come :=
  EncodedLength.of_short (encInh_short _ _)
theorem EncodedLength.lded (hhll : Word) : EncodedLength.Statement (.lded hhll) :=
  EncodedLength.of_short (encWord_short _ _ _)
theorem EncodedLength.nege : EncodedLength.Statement .nege :=
  EncodedLength.of_short (encInh_short _ _)
theorem EncodedLength.sted (hhll : Word) : EncodedLength.Statement (.sted hhll) :=
  EncodedLength.of_short (encWord_short _ _ _)
theorem EncodedLength.asle : EncodedLength.Statement .asle :=
  EncodedLength.of_short (encInh_short _ _)
theorem EncodedLength.clre : EncodedLength.Statement .clre :=
  EncodedLength.of_short (encInh_short _ _)
theorem EncodedLength.tste : EncodedLength.Statement .tste :=
  EncodedLength.of_short (encInh_short _ _)
theorem EncodedLength.rti : EncodedLength.Statement .rti :=
  EncodedLength.of_short (encInh_short _ _)
theorem EncodedLength.ade : EncodedLength.Statement .ade :=
  EncodedLength.of_short (encInh_short _ _)
theorem EncodedLength.sde : EncodedLength.Statement .sde :=
  EncodedLength.of_short (encInh_short _ _)
theorem EncodedLength.xgde : EncodedLength.Statement .xgde :=
  EncodedLength.of_short (encInh_short _ _)
theorem EncodedLength.tde : EncodedLength.Statement .tde :=
  EncodedLength.of_short (encInh_short _ _)
theorem EncodedLength.role : EncodedLength.Statement .role :=
  EncodedLength.of_short (encInh_short _ _)
theorem EncodedLength.asre : EncodedLength.Statement .asre :=
  EncodedLength.of_short (encInh_short _ _)
theorem EncodedLength.rore : EncodedLength.Statement .rore :=
  EncodedLength.of_short (encInh_short _ _)
theorem EncodedLength.lsre : EncodedLength.Statement .lsre :=
  EncodedLength.of_short (encInh_short _ _)
theorem EncodedLength.ldhi : EncodedLength.Statement .ldhi :=
  EncodedLength.of_short (encInh_short _ _)
theorem EncodedLength.tedm : EncodedLength.Statement .tedm :=
  EncodedLength.of_short (encInh_short _ _)
theorem EncodedLength.tem : EncodedLength.Statement .tem :=
  EncodedLength.of_short (encInh_short _ _)
theorem EncodedLength.tmxed : EncodedLength.Statement .tmxed :=
  EncodedLength.of_short (encInh_short _ _)
theorem EncodedLength.tmer : EncodedLength.Statement .tmer :=
  EncodedLength.of_short (encInh_short _ _)
theorem EncodedLength.tmet : EncodedLength.Statement .tmet :=
  EncodedLength.of_short (encInh_short _ _)
theorem EncodedLength.aslm : EncodedLength.Statement .aslm :=
  EncodedLength.of_short (encInh_short _ _)
theorem EncodedLength.clrm : EncodedLength.Statement .clrm :=
  EncodedLength.of_short (encInh_short _ _)
theorem EncodedLength.pshmac : EncodedLength.Statement .pshmac :=
  EncodedLength.of_short (encInh_short _ _)
theorem EncodedLength.pulmac : EncodedLength.Statement .pulmac :=
  EncodedLength.of_short (encInh_short _ _)
theorem EncodedLength.asrm : EncodedLength.Statement .asrm :=
  EncodedLength.of_short (encInh_short _ _)
theorem EncodedLength.tekb : EncodedLength.Statement .tekb :=
  EncodedLength.of_short (encInh_short _ _)
theorem EncodedLength.comd : EncodedLength.Statement .comd :=
  EncodedLength.of_short (encInh_short _ _)
theorem EncodedLength.lpstop : EncodedLength.Statement .lpstop :=
  EncodedLength.of_short (encInh_short _ _)
theorem EncodedLength.negd : EncodedLength.Statement .negd :=
  EncodedLength.of_short (encInh_short _ _)
theorem EncodedLength.wai : EncodedLength.Statement .wai :=
  EncodedLength.of_short (encInh_short _ _)
theorem EncodedLength.asld : EncodedLength.Statement .asld :=
  EncodedLength.of_short (encInh_short _ _)
theorem EncodedLength.clrd : EncodedLength.Statement .clrd :=
  EncodedLength.of_short (encInh_short _ _)
theorem EncodedLength.tstd : EncodedLength.Statement .tstd :=
  EncodedLength.of_short (encInh_short _ _)
theorem EncodedLength.rts : EncodedLength.Statement .rts :=
  EncodedLength.of_short (encInh_short _ _)
theorem EncodedLength.sxt : EncodedLength.Statement .sxt :=
  EncodedLength.of_short (encInh_short _ _)
theorem EncodedLength.lbsr (rrrr : Word) : EncodedLength.Statement (.lbsr rrrr) :=
  EncodedLength.of_short (encWord_short _ _ _)
theorem EncodedLength.tbek : EncodedLength.Statement .tbek :=
  EncodedLength.of_short (encInh_short _ _)
theorem EncodedLength.ted : EncodedLength.Statement .ted :=
  EncodedLength.of_short (encInh_short _ _)
theorem EncodedLength.rold : EncodedLength.Statement .rold :=
  EncodedLength.of_short (encInh_short _ _)
theorem EncodedLength.asrd : EncodedLength.Statement .asrd :=
  EncodedLength.of_short (encInh_short _ _)
theorem EncodedLength.rord : EncodedLength.Statement .rord :=
  EncodedLength.of_short (encInh_short _ _)
theorem EncodedLength.lsrd : EncodedLength.Statement .lsrd :=
  EncodedLength.of_short (encInh_short _ _)
theorem EncodedLength.coma : EncodedLength.Statement .coma :=
  EncodedLength.of_short (encInh_short _ _)
theorem EncodedLength.deca : EncodedLength.Statement .deca :=
  EncodedLength.of_short (encInh_short _ _)
theorem EncodedLength.nega : EncodedLength.Statement .nega :=
  EncodedLength.of_short (encInh_short _ _)
theorem EncodedLength.inca : EncodedLength.Statement .inca :=
  EncodedLength.of_short (encInh_short _ _)
theorem EncodedLength.asla : EncodedLength.Statement .asla :=
  EncodedLength.of_short (encInh_short _ _)
theorem EncodedLength.clra : EncodedLength.Statement .clra :=
  EncodedLength.of_short (encInh_short _ _)
theorem EncodedLength.tsta : EncodedLength.Statement .tsta :=
  EncodedLength.of_short (encInh_short _ _)
theorem EncodedLength.tba : EncodedLength.Statement .tba :=
  EncodedLength.of_short (encInh_short _ _)
theorem EncodedLength.psha : EncodedLength.Statement .psha :=
  EncodedLength.of_short (encInh_short _ _)
theorem EncodedLength.pula : EncodedLength.Statement .pula :=
  EncodedLength.of_short (encInh_short _ _)
theorem EncodedLength.sba : EncodedLength.Statement .sba :=
  EncodedLength.of_short (encInh_short _ _)
theorem EncodedLength.aba : EncodedLength.Statement .aba :=
  EncodedLength.of_short (encInh_short _ _)
theorem EncodedLength.rola : EncodedLength.Statement .rola :=
  EncodedLength.of_short (encInh_short _ _)
theorem EncodedLength.asra : EncodedLength.Statement .asra :=
  EncodedLength.of_short (encInh_short _ _)
theorem EncodedLength.rora : EncodedLength.Statement .rora :=
  EncodedLength.of_short (encInh_short _ _)
theorem EncodedLength.lsra : EncodedLength.Statement .lsra :=
  EncodedLength.of_short (encInh_short _ _)
theorem EncodedLength.comb : EncodedLength.Statement .comb :=
  EncodedLength.of_short (encInh_short _ _)
theorem EncodedLength.decb : EncodedLength.Statement .decb :=
  EncodedLength.of_short (encInh_short _ _)
theorem EncodedLength.negb : EncodedLength.Statement .negb :=
  EncodedLength.of_short (encInh_short _ _)
theorem EncodedLength.incb : EncodedLength.Statement .incb :=
  EncodedLength.of_short (encInh_short _ _)
theorem EncodedLength.aslb : EncodedLength.Statement .aslb :=
  EncodedLength.of_short (encInh_short _ _)
theorem EncodedLength.clrb : EncodedLength.Statement .clrb :=
  EncodedLength.of_short (encInh_short _ _)
theorem EncodedLength.tstb : EncodedLength.Statement .tstb :=
  EncodedLength.of_short (encInh_short _ _)
theorem EncodedLength.tab : EncodedLength.Statement .tab :=
  EncodedLength.of_short (encInh_short _ _)
theorem EncodedLength.pshb : EncodedLength.Statement .pshb :=
  EncodedLength.of_short (encInh_short _ _)
theorem EncodedLength.pulb : EncodedLength.Statement .pulb :=
  EncodedLength.of_short (encInh_short _ _)
theorem EncodedLength.xgab : EncodedLength.Statement .xgab :=
  EncodedLength.of_short (encInh_short _ _)
theorem EncodedLength.cba : EncodedLength.Statement .cba :=
  EncodedLength.of_short (encInh_short _ _)
theorem EncodedLength.rolb : EncodedLength.Statement .rolb :=
  EncodedLength.of_short (encInh_short _ _)
theorem EncodedLength.asrb : EncodedLength.Statement .asrb :=
  EncodedLength.of_short (encInh_short _ _)
theorem EncodedLength.rorb : EncodedLength.Statement .rorb :=
  EncodedLength.of_short (encInh_short _ _)
theorem EncodedLength.lsrb : EncodedLength.Statement .lsrb :=
  EncodedLength.of_short (encInh_short _ _)
theorem EncodedLength.swi : EncodedLength.Statement .swi :=
  EncodedLength.of_short (encInh_short _ _)
theorem EncodedLength.daa : EncodedLength.Statement .daa :=
  EncodedLength.of_short (encInh_short _ _)
theorem EncodedLength.ace : EncodedLength.Statement .ace :=
  EncodedLength.of_short (encInh_short _ _)
theorem EncodedLength.aced : EncodedLength.Statement .aced :=
  EncodedLength.of_short (encInh_short _ _)
theorem EncodedLength.mul : EncodedLength.Statement .mul :=
  EncodedLength.of_short (encInh_short _ _)
theorem EncodedLength.emul : EncodedLength.Statement .emul :=
  EncodedLength.of_short (encInh_short _ _)
theorem EncodedLength.emuls : EncodedLength.Statement .emuls :=
  EncodedLength.of_short (encInh_short _ _)
theorem EncodedLength.fmuls : EncodedLength.Statement .fmuls :=
  EncodedLength.of_short (encInh_short _ _)
theorem EncodedLength.ediv : EncodedLength.Statement .ediv :=
  EncodedLength.of_short (encInh_short _ _)
theorem EncodedLength.edivs : EncodedLength.Statement .edivs :=
  EncodedLength.of_short (encInh_short _ _)
theorem EncodedLength.idiv : EncodedLength.Statement .idiv :=
  EncodedLength.of_short (encInh_short _ _)
theorem EncodedLength.fdiv : EncodedLength.Statement .fdiv :=
  EncodedLength.of_short (encInh_short _ _)
theorem EncodedLength.tpd : EncodedLength.Statement .tpd :=
  EncodedLength.of_short (encInh_short _ _)
theorem EncodedLength.tdp : EncodedLength.Statement .tdp :=
  EncodedLength.of_short (encInh_short _ _)
theorem EncodedLength.tdmsk : EncodedLength.Statement .tdmsk :=
  EncodedLength.of_short (encInh_short _ _)
theorem EncodedLength.sube (src : Src16) : EncodedLength.Statement (.sube src) :=
  EncodedLength.of_short (encSrcE_short _ _)
theorem EncodedLength.sbce (src : Src16) : EncodedLength.Statement (.sbce src) :=
  EncodedLength.of_short (encSrcE_short _ _)
theorem EncodedLength.adce (src : Src16) : EncodedLength.Statement (.adce src) :=
  EncodedLength.of_short (encSrcE_short _ _)
theorem EncodedLength.eore (src : Src16) : EncodedLength.Statement (.eore src) :=
  EncodedLength.of_short (encSrcE_short _ _)
theorem EncodedLength.lde (src : Src16) : EncodedLength.Statement (.lde src) :=
  EncodedLength.of_short (encSrcE_short _ _)
theorem EncodedLength.ande (src : Src16) : EncodedLength.Statement (.ande src) :=
  EncodedLength.of_short (encSrcE_short _ _)
theorem EncodedLength.ore (src : Src16) : EncodedLength.Statement (.ore src) :=
  EncodedLength.of_short (encSrcE_short _ _)
theorem EncodedLength.cpe (src : Src16) : EncodedLength.Statement (.cpe src) :=
  EncodedLength.of_short (encSrcE_short _ _)
theorem EncodedLength.andp (jjkk : Word) : EncodedLength.Statement (.andp jjkk) :=
  EncodedLength.of_short (encWord_short _ _ _)
theorem EncodedLength.orp (jjkk : Word) : EncodedLength.Statement (.orp jjkk) :=
  EncodedLength.of_short (encWord_short _ _ _)
theorem EncodedLength.ste (m : MemOp) : EncodedLength.Statement (.ste m) :=
  EncodedLength.of_short (encMemE_short _ _)
theorem EncodedLength.xgex : EncodedLength.Statement .xgex :=
  EncodedLength.of_short (encInh_short _ _)
theorem EncodedLength.aex : EncodedLength.Statement .aex :=
  EncodedLength.of_short (encInh_short _ _)
theorem EncodedLength.txs : EncodedLength.Statement .txs :=
  EncodedLength.of_short (encInh_short _ _)
theorem EncodedLength.abx : EncodedLength.Statement .abx :=
  EncodedLength.of_short (encInh_short _ _)
theorem EncodedLength.xgey : EncodedLength.Statement .xgey :=
  EncodedLength.of_short (encInh_short _ _)
theorem EncodedLength.aey : EncodedLength.Statement .aey :=
  EncodedLength.of_short (encInh_short _ _)
theorem EncodedLength.tys : EncodedLength.Statement .tys :=
  EncodedLength.of_short (encInh_short _ _)
theorem EncodedLength.aby : EncodedLength.Statement .aby :=
  EncodedLength.of_short (encInh_short _ _)
theorem EncodedLength.xgez : EncodedLength.Statement .xgez :=
  EncodedLength.of_short (encInh_short _ _)
theorem EncodedLength.aez : EncodedLength.Statement .aez :=
  EncodedLength.of_short (encInh_short _ _)
theorem EncodedLength.tzs : EncodedLength.Statement .tzs :=
  EncodedLength.of_short (encInh_short _ _)
theorem EncodedLength.abz : EncodedLength.Statement .abz :=
  EncodedLength.of_short (encInh_short _ _)
theorem EncodedLength.lbra (rrrr : Word) : EncodedLength.Statement (.lbra rrrr) :=
  EncodedLength.of_short (encWord_short _ _ _)
theorem EncodedLength.lbrn (rrrr : Word) : EncodedLength.Statement (.lbrn rrrr) :=
  EncodedLength.of_short (encWord_short _ _ _)
theorem EncodedLength.lbhi (rrrr : Word) : EncodedLength.Statement (.lbhi rrrr) :=
  EncodedLength.of_short (encWord_short _ _ _)
theorem EncodedLength.lbls (rrrr : Word) : EncodedLength.Statement (.lbls rrrr) :=
  EncodedLength.of_short (encWord_short _ _ _)
theorem EncodedLength.lbcc (rrrr : Word) : EncodedLength.Statement (.lbcc rrrr) :=
  EncodedLength.of_short (encWord_short _ _ _)
theorem EncodedLength.lbcs (rrrr : Word) : EncodedLength.Statement (.lbcs rrrr) :=
  EncodedLength.of_short (encWord_short _ _ _)
theorem EncodedLength.lbne (rrrr : Word) : EncodedLength.Statement (.lbne rrrr) :=
  EncodedLength.of_short (encWord_short _ _ _)
theorem EncodedLength.lbeq (rrrr : Word) : EncodedLength.Statement (.lbeq rrrr) :=
  EncodedLength.of_short (encWord_short _ _ _)
theorem EncodedLength.lbvc (rrrr : Word) : EncodedLength.Statement (.lbvc rrrr) :=
  EncodedLength.of_short (encWord_short _ _ _)
theorem EncodedLength.lbvs (rrrr : Word) : EncodedLength.Statement (.lbvs rrrr) :=
  EncodedLength.of_short (encWord_short _ _ _)
theorem EncodedLength.lbpl (rrrr : Word) : EncodedLength.Statement (.lbpl rrrr) :=
  EncodedLength.of_short (encWord_short _ _ _)
theorem EncodedLength.lbmi (rrrr : Word) : EncodedLength.Statement (.lbmi rrrr) :=
  EncodedLength.of_short (encWord_short _ _ _)
theorem EncodedLength.lbge (rrrr : Word) : EncodedLength.Statement (.lbge rrrr) :=
  EncodedLength.of_short (encWord_short _ _ _)
theorem EncodedLength.lblt (rrrr : Word) : EncodedLength.Statement (.lblt rrrr) :=
  EncodedLength.of_short (encWord_short _ _ _)
theorem EncodedLength.lbgt (rrrr : Word) : EncodedLength.Statement (.lbgt rrrr) :=
  EncodedLength.of_short (encWord_short _ _ _)
theorem EncodedLength.lble (rrrr : Word) : EncodedLength.Statement (.lble rrrr) :=
  EncodedLength.of_short (encWord_short _ _ _)
theorem EncodedLength.lbmv (rrrr : Word) : EncodedLength.Statement (.lbmv rrrr) :=
  EncodedLength.of_short (encWord_short _ _ _)
theorem EncodedLength.lbev (rrrr : Word) : EncodedLength.Statement (.lbev rrrr) :=
  EncodedLength.of_short (encWord_short _ _ _)
theorem EncodedLength.tbxk : EncodedLength.Statement .tbxk :=
  EncodedLength.of_short (encInh_short _ _)
theorem EncodedLength.tbyk : EncodedLength.Statement .tbyk :=
  EncodedLength.of_short (encInh_short _ _)
theorem EncodedLength.tbzk : EncodedLength.Statement .tbzk :=
  EncodedLength.of_short (encInh_short _ _)
theorem EncodedLength.tbsk : EncodedLength.Statement .tbsk :=
  EncodedLength.of_short (encInh_short _ _)
theorem EncodedLength.bgnd : EncodedLength.Statement .bgnd :=
  EncodedLength.of_short (encInh_short _ _)
theorem EncodedLength.txkb : EncodedLength.Statement .txkb :=
  EncodedLength.of_short (encInh_short _ _)
theorem EncodedLength.tykb : EncodedLength.Statement .tykb :=
  EncodedLength.of_short (encInh_short _ _)
theorem EncodedLength.tzkb : EncodedLength.Statement .tzkb :=
  EncodedLength.of_short (encInh_short _ _)
theorem EncodedLength.tskb : EncodedLength.Statement .tskb :=
  EncodedLength.of_short (encInh_short _ _)
theorem EncodedLength.xgdx : EncodedLength.Statement .xgdx :=
  EncodedLength.of_short (encInh_short _ _)
theorem EncodedLength.adx : EncodedLength.Statement .adx :=
  EncodedLength.of_short (encInh_short _ _)
theorem EncodedLength.xgdy : EncodedLength.Statement .xgdy :=
  EncodedLength.of_short (encInh_short _ _)
theorem EncodedLength.ady : EncodedLength.Statement .ady :=
  EncodedLength.of_short (encInh_short _ _)
theorem EncodedLength.xgdz : EncodedLength.Statement .xgdz :=
  EncodedLength.of_short (encInh_short _ _)
theorem EncodedLength.adz : EncodedLength.Statement .adz :=
  EncodedLength.of_short (encInh_short _ _)
theorem EncodedLength.tpa : EncodedLength.Statement .tpa :=
  EncodedLength.of_short (encInh_short _ _)
theorem EncodedLength.tap : EncodedLength.Statement .tap :=
  EncodedLength.of_short (encInh_short _ _)

end Sys2Proof.Laws
end

