-- ==== Sys2Proof/Laws/Shapes.lean ====
section
/-!
SUPPORT. What each operand form and instruction shape does: on a quiet platform the value it reads; on every platform,
that it keeps the invariant and the platform.
-/

namespace Sys2Proof.Machine

/-! ### Sources on a quiet platform -/

/-- A byte source reads its value and changes nothing (30_encoding.md R161). -/
theorem State.Quiet.readSrc8 {s : State} (h : s.Quiet) (src : Src8) : readSrc8 src s = (value8 src s, s) := by
  cases src <;> simp [Machine.readSrc8, value8, h.readByte]

/-- A word source reads its value and changes nothing; IMM8 is sign-extended (30_encoding.md R161, R162). -/
theorem State.Quiet.readSrc16 {s : State} (h : s.Quiet) (src : Src16) : readSrc16 src s = (value16 src s, s) := by
  cases src <;> simp [Machine.readSrc16, value16, h.readWord, sext16, BitVec.signExtend]

/-! ### Lengths are even -/

theorem memLen_even (m : MemOp) : (memLen m).getLsbD 0 = false := by cases m <;> simp [memLen]
theorem src8Len_even (src : Src8) : (src8Len src).getLsbD 0 = false := by
  rcases src with _ | m
  · simp [src8Len]
  · exact memLen_even m
theorem src16Len_even (src : Src16) : (src16Len src).getLsbD 0 = false := by
  rcases src with _ | _ | m
  · simp [src16Len]
  · simp [src16Len]
  · exact memLen_even m
theorem immLen_even (i : Imm) : (immLen i).getLsbD 0 = false := by cases i <;> simp [immLen]
theorem movLen_even (op : MovOp) : (movLen op).getLsbD 0 = false := by cases op <;> simp [movLen]
theorem brLen_even (op : BrOp) : (brLen op).getLsbD 0 = false := by cases op <;> simp [brLen]

/-! ### Register updates keep the invariant and the platform -/

theorem Kept.setFlags (c : Ccr) (s : State) : Kept s (s.setFlags c) := Kept.congr rfl rfl rfl rfl
theorem Kept.setD (v : Word) (s : State) : Kept s (s.setD v) := Kept.congr rfl rfl rfl rfl
theorem Kept.setEd (v : BitVec 32) (s : State) : Kept s (s.setEd v) := Kept.congr rfl rfl rfl rfl
theorem Kept.setK (v : Word) (s : State) : Kept s (s.setK v) := Kept.congr rfl rfl rfl rfl
theorem Kept.inhibit (s : State) : Kept s s.inhibit := Kept.congr rfl rfl rfl rfl
theorem Kept.setRun (r : RunState) (s : State) : Kept s (s.setRun r) := Kept.congr rfl rfl rfl rfl
theorem Kept.setR8 (r : R8) (v : Byte) (s : State) : Kept s (setR8 r v s) :=
  Kept.congr (by simp) (by simp) (by simp) (by simp)
theorem Kept.setR16 (r : R16) (v : Word) (s : State) : Kept s (setR16 r v s) :=
  Kept.congr (by simp) (by simp) (by simp) (by simp)
theorem Kept.setIndex (r : Idx) (v : Word) (s : State) : Kept s (s.setIndex r v) :=
  Kept.congr (by simp) (by simp) (by simp) (by simp)
theorem Kept.setPointer (r : Idx) (v : Addr) (s : State) : Kept s (s.setPointer r v) :=
  Kept.congr (by simp) (by simp) (by simp) (by simp)

/-! ### Sources and shapes keep the invariant and the platform -/

theorem Kept.readSrc8 (src : Src8) (s : State) : Kept s (readSrc8 src s).2 := by
  cases src
  · exact Kept.refl s
  · exact Kept.readByte _ s

theorem Kept.readSrc16 (src : Src16) (s : State) : Kept s (readSrc16 src s).2 := by
  cases src
  · exact Kept.refl s
  · exact Kept.refl s
  · exact Kept.readWord _ s

/-- The end of most instructions: the flags, then the program counter. -/
theorem Kept.finish {s t : State} (h : Kept s t) (c : Ccr) {len : Addr} (e : len.getLsbD 0 = false) :
    Kept s ((t.setFlags c).advance len) := h.trans ((Kept.setFlags c t).trans (Kept.advance e _))

/-- What a result says of the state it answers. -/
def Out.All (p : State → Prop) (o : Out) : Prop := ∀ t, o = .next t → p t

theorem Out.All.next {p : State → Prop} {t : State} (h : p t) : Out.All p (.next t) := by
  rintro u ⟨⟩
  exact h

theorem Kept.bin8 (op : Bin 8) (r : R8) (src : Src8) (s : State) : Out.All (Kept s) (bin8 op r src s) :=
  .next (((Kept.readSrc8 src s).trans (Kept.setR8 r _ _)).finish _ (src8Len_even src))

theorem Kept.cmp8 (op : Bin 8) (r : R8) (src : Src8) (s : State) : Out.All (Kept s) (cmp8 op r src s) :=
  .next ((Kept.readSrc8 src s).finish _ (src8Len_even src))

theorem Kept.bin16 (op : Bin 16) (r : R16) (src : Src16) (s : State) : Out.All (Kept s) (bin16 op r src s) :=
  .next (((Kept.readSrc16 src s).trans (Kept.setR16 r _ _)).finish _ (src16Len_even src))

theorem Kept.cmp16 (op : Bin 16) (r : R16) (src : Src16) (s : State) : Out.All (Kept s) (cmp16 op r src s) :=
  .next ((Kept.readSrc16 src s).finish _ (src16Len_even src))

theorem Kept.reg8 (op : Bin 8) (r : R8) (x y : Byte) (s : State) : Out.All (Kept s) (reg8 op r x y s) :=
  .next ((Kept.setR8 r _ s).finish _ (by decide))

theorem Kept.reg16 (op : Bin 16) (r : R16) (x y : Word) (s : State) : Out.All (Kept s) (reg16 op r x y s) :=
  .next ((Kept.setR16 r _ s).finish _ (by decide))

theorem Kept.un8 (op : Un 8) (r : R8) (s : State) : Out.All (Kept s) (un8 op r s) :=
  .next ((Kept.setR8 r _ s).finish _ (by decide))

theorem Kept.un16 (op : Un 16) (r : R16) (s : State) : Out.All (Kept s) (un16 op r s) :=
  .next ((Kept.setR16 r _ s).finish _ (by decide))

theorem Kept.store8 (v : Byte) (m : MemOp) (s : State) : Out.All (Kept s) (store8 v m s) :=
  .next ((Kept.writeByte _ v s).finish _ (memLen_even m))

theorem Kept.store16 (v : Word) (m : MemOp) (s : State) : Out.All (Kept s) (store16 v m s) :=
  .next ((Kept.writeWord _ v s).finish _ (memLen_even m))

theorem Kept.rmw8 (op : Un 8) (m : MemOp) {len : Addr} (e : len.getLsbD 0 = false) (s : State) :
    Out.All (Kept s) (rmw8 op m len s) :=
  .next (((Kept.readByte (ea m s) s).trans (Kept.writeByte (ea m s) _ _)).finish _ e)

theorem Kept.rmw16 (op : Un 16) (m : MemOp) {len : Addr} (e : len.getLsbD 0 = false) (s : State) :
    Out.All (Kept s) (rmw16 op m len s) :=
  .next (((Kept.readWord (ea m s) s).trans (Kept.writeWord (ea m s) _ _)).finish _ e)

theorem Kept.test8 (m : MemOp) (s : State) : Out.All (Kept s) (test8 m s) :=
  .next ((Kept.readByte (ea m s) s).finish _ (memLen_even m))

theorem Kept.test16 (m : MemOp) (s : State) : Out.All (Kept s) (test16 m s) :=
  .next ((Kept.readWord (ea m s) s).finish _ (memLen_even m))

theorem Kept.clear8 (m : MemOp) (s : State) : Out.All (Kept s) (clear8 m s) :=
  .next ((Kept.writeByte (ea m s) _ s).finish _ (memLen_even m))

theorem Kept.clear16 (m : MemOp) (s : State) : Out.All (Kept s) (clear16 m s) :=
  .next ((Kept.writeWord (ea m s) _ s).finish _ (memLen_even m))

theorem Kept.branchIf (taken : Bool) (off : Addr) {len : Addr} (e : len.getLsbD 0 = false) (s : State) :
    Kept s (branchIf taken off len s) := by
  unfold Machine.branchIf
  split
  · exact Kept.jumpTo _ s
  · exact Kept.advance e s

theorem Kept.shortBranch (cond : Ccr → Bool) (rr : Byte) (s : State) : Out.All (Kept s) (shortBranch cond rr s) :=
  .next (Kept.branchIf _ _ (by decide) s)

theorem Kept.longBranch (cond : Ccr → Bool) (rrrr : Word) (s : State) : Out.All (Kept s) (longBranch cond rrrr s) :=
  .next (Kept.branchIf _ _ (by decide) s)

end Sys2Proof.Machine
end

