-- ==== Sys2Proof/Laws/Stack.lean ====
section
/-!
SUPPORT. What a push, a frame, a pull and taking an exception do on a quiet platform, and taking an exception wherever its
transfers do not end in BERR.
-/

namespace Sys2Proof.Machine

/-! ### Framing updates of the registers -/

/-- A frame with nothing but the stack pointer changed. -/
theorem Frame.setSkSp (a : Addr) (s : State) : Frame [.sp, .sk] [] s (s.setSkSp a) :=
  Frame.of_parts rfl rfl rfl fun l h => by
    cases l <;> first | exact absurd (by decide) h | exact rfl | exact ⟨rfl, rfl⟩

/-- A change of the program counter changes no part a frame names. -/
theorem Frame.jumpTo (a : Addr) (s : State) : Frame [] [] s (s.jumpTo a) :=
  Frame.of_parts rfl rfl rfl fun l _ => by cases l <;> first | exact rfl | exact ⟨rfl, rfl⟩

/-- Going on changes no part a frame names. -/
theorem Frame.advance (len : Addr) (s : State) : Frame [] [] s (s.advance len) :=
  Frame.of_parts rfl rfl rfl fun l _ => by cases l <;> first | exact rfl | exact ⟨rfl, rfl⟩

/-- Starting a handler changes the inhibit alone (60_exceptions.md R644). -/
theorem Frame.beginHandler (a : Addr) (s : State) : Frame [.inhibit] [] s (s.beginHandler a) :=
  Frame.of_parts rfl rfl rfl fun l h => by
    cases l <;> first | exact absurd (by decide) h | exact rfl | exact ⟨rfl, rfl⟩

/-- The activity of the processor. -/
theorem Frame.setRun (r : RunState) (s : State) : Frame [.run] [] s (s.setRun r) :=
  Frame.of_parts rfl rfl rfl fun l h => by
    cases l <;> first | exact absurd (by decide) h | exact rfl | exact ⟨rfl, rfl⟩

/-! ### Pushing -/

/-- A word pushed stands at the old SK : SP, which falls by 2; nothing else changes (10_state.md R33). -/
theorem State.Quiet.pushWord_spec {s : State} (h : s.Quiet) (wf : Memory.wf s.mem = true) (v : Word) :
    (s.pushWord v).skSp = s.skSp - 2 ∧ (s.pushWord v).peekWord .data s.skSp = v ∧
      Frame [.sp, .sk] (wordAt s.skSp) s (s.pushWord v) ∧ (s.pushWord v).pc = s.pc ∧
      (s.pushWord v).platform = s.platform ∧ Memory.wf (s.pushWord v).mem = true := by
  rw [h.pushWord]
  refine ⟨?_, ?_, ?_, ?_, ?_, ?_⟩
  · simp
  · rw [State.peekWord_setSkSp, State.peekWord_pokeWord wf]
  · exact (Frame.pokeWord s.skSp v s).trans (pokeWord_platform _ _ _) (Frame.setSkSp _ _) |>.mono (by simp) (by simp)
  · simp
  · simp
  · exact State.wf_pokeWord wf _ _

/-- The frame of a call or an exception (44_program_control.md R438, 60_exceptions.md R680). -/
theorem State.Quiet.pushFrame_spec {s : State} (h : s.Quiet) (wf : Memory.wf s.mem = true) (ret : Addr) :
    FrameStacked ret s (s.pushFrame ret) ∧ Frame [.sp, .sk] (frameBytes s) s (s.pushFrame ret) ∧
      (s.pushFrame ret).pc = s.pc ∧ (s.pushFrame ret).platform = s.platform ∧
      Memory.wf (s.pushFrame ret).mem = true := by
  obtain ⟨s1, r1, f1, p1, q1, w1⟩ := h.pushWord_spec wf (offset ret)
  obtain ⟨s2, r2, f2, p2, q2, w2⟩ := (h.of_platform q1).pushWord_spec w1 (s.ccr.pack (bank ret))
  rw [State.pushFrame]
  rw [s1] at s2 r2 f2
  refine ⟨⟨?_, ?_, r2⟩, ?_, p2.trans p1, q2.trans q1, w2⟩
  · rw [s2]
    bv_omega
  · refine Eq.trans ?_ r1
    have h0 := f2.data s.skSp (by simp only [wordAt, List.mem_cons, List.not_mem_nil, or_false, not_or]; bv_omega)
    have h1 := f2.data (s.skSp + 1) (by simp only [wordAt, List.mem_cons, List.not_mem_nil, or_false, not_or]; bv_omega)
    rw [State.peekWord, State.peekWord, h0, h1]
  · exact (f1.trans q1 f2).mono (by simp) (by simp [frameBytes])

/-! ### Pulling -/

/-- The two words of a frame, pulled (10_state.md R33). -/
theorem State.Quiet.pullWord_fst {s : State} (h : s.Quiet) : s.pullWord.1 = s.peekWord .data (s.skSp + 2) := by
  rw [h.pullWord]

theorem State.Quiet.pullWord_snd {s : State} (h : s.Quiet) : s.pullWord.2 = s.setSkSp (s.skSp + 2) := by
  rw [h.pullWord]

/-- Writing SK : SP twice. -/
@[simp] theorem State.setSkSp_setSkSp (a b : Addr) (s : State) : (s.setSkSp a).setSkSp b = s.setSkSp b := rfl

/-- A pull after SK : SP was written, in terms of the state before that. -/
theorem State.Quiet.pullWord_setSkSp {s : State} (h : s.Quiet) (a : Addr) :
    (s.setSkSp a).pullWord = (s.peekWord .data (a + 2), s.setSkSp (a + 2)) := by
  rw [(h.setSkSp a).pullWord, State.skSp_setSkSp, State.peekWord_setSkSp, State.setSkSp_setSkSp]

/-- RTS as one update (44_program_control.md R442). -/
theorem State.Quiet.returnFromSubroutine {s : State} (h : s.Quiet) :
    s.returnFromSubroutine = (s.setSkSp (s.skSp + 4)).jumpTo
      (((s.peekWord .data (s.skSp + 2)).extractLsb' 0 4 ++ s.peekWord .data (s.skSp + 4)) - 2) := by
  have e : s.skSp + 2 + 2 = s.skSp + 4 := by bv_omega
  have e' : (s.setSkSp (s.skSp + 2)).setSkSp (s.skSp + 4) = s.setSkSp (s.skSp + 4) := rfl
  simp only [State.returnFromSubroutine, h.pullWord, (h.setSkSp _).pullWord, State.skSp_setSkSp,
    State.peekWord_setSkSp, e, e']

/-- RTI as one update (44_program_control.md R443). -/
theorem State.Quiet.returnFromException {s : State} (h : s.Quiet) :
    s.returnFromException = ((s.setSkSp (s.skSp + 4)).writeCcr (Ccr.unpack (s.peekWord .data (s.skSp + 2)))).jumpTo
      (((s.peekWord .data (s.skSp + 2)).extractLsb' 0 4 ++ s.peekWord .data (s.skSp + 4)) - 6) := by
  have e : s.skSp + 2 + 2 = s.skSp + 4 := by bv_omega
  have q : ((s.setSkSp (s.skSp + 2)).writeCcr (Ccr.unpack (s.peekWord .data (s.skSp + 2)))).Quiet := h.of_platform rfl
  have e' (c : Ccr) : ((s.setSkSp (s.skSp + 2)).writeCcr c).setSkSp (s.skSp + 4) =
    (s.setSkSp (s.skSp + 4)).writeCcr c := rfl
  simp only [State.returnFromException, h.pullWord, q.pullWord, State.skSp_writeCcr, State.skSp_setSkSp,
    State.peekWord_writeCcr, State.peekWord_setSkSp, e, e']

/-! ### Transfers that do not end in BERR, with no other bus master -/

/-- The effect of an access on the breakpoint latch (60_exceptions.md R660). -/
def State.noteBreak (b : Bool) (s : State) : State :=
  { s with hid := { s.hid with bkptPending := s.hid.bkptPending || b } }

@[simp] theorem State.noteBreak_run (b : Bool) (s : State) : (s.noteBreak b).run = s.run := rfl
@[simp] theorem State.noteBreak_ccr (b : Bool) (s : State) : (s.noteBreak b).ccr = s.ccr := rfl
@[simp] theorem State.noteBreak_events (b : Bool) (s : State) : (s.noteBreak b).events = s.events := rfl
@[simp] theorem State.noteBreak_platform (b : Bool) (s : State) : (s.noteBreak b).platform = s.platform := rfl
@[simp] theorem State.noteBreak_hid (b : Bool) (s : State) :
    (s.noteBreak b).hid = { s.hid with bkptPending := s.hid.bkptPending || b } := rfl
@[simp] theorem State.skSp_noteBreak (b : Bool) (s : State) : (s.noteBreak b).skSp = s.skSp := rfl
@[simp] theorem State.peekWord_noteBreak (b : Bool) (s : State) (q : Space) (x : Addr) :
    (s.noteBreak b).peekWord q x = s.peekWord q x := rfl

theorem Frame.noteBreak (b : Bool) (s : State) : Frame [.bkptPending] [] s (s.noteBreak b) :=
  Frame.of_parts rfl rfl rfl fun l h => by
    cases l <;> first | exact absurd (by decide) h | exact rfl | exact ⟨rfl, rfl⟩

/-- An access that does not end in BERR can only make a breakpoint pending. -/
theorem State.noteAccess_clear {s : State} {write : Bool} {cycles : List Addr}
    (h : s.busError .data write cycles = false) :
    s.noteAccess .data write cycles = s.noteBreak (s.bkptHit .data write cycles) := by
  unfold State.noteAccess State.noteBreak
  rw [h]
  cases e : s.bkptHit .data write cycles <;> simp [e]

/-- A word pushed where no cycle of the push ends in BERR: the word, the stack pointer, the breakpoint latch, and nothing
else (10_state.md R33). -/
theorem State.pushWord_clear {s : State} (m : s.platform.externalMasters = false)
    (h : s.busError .data true (wordCycles s.skSp) = false) (wf : Memory.wf s.mem = true) (v : Word) :
    (s.pushWord v).skSp = s.skSp - 2 ∧ (s.pushWord v).peekWord .data s.skSp = v ∧
      Frame [.sp, .sk, .bkptPending] (wordAt s.skSp) s (s.pushWord v) ∧
      (s.pushWord v).hid.bkptPending = (s.hid.bkptPending || s.bkptHit .data true (wordCycles s.skSp)) ∧
      (s.pushWord v).platform = s.platform ∧ Memory.wf (s.pushWord v).mem = true := by
  have e : s.pushWord v =
      ((Machine.pokeWord s.skSp v s).noteBreak (s.bkptHit .data true (wordCycles s.skSp))).setSkSp (s.skSp - 2) := by
    have h1 : (Machine.pokeWord s.skSp v s).busError .data true (wordCycles s.skSp) = false := by
      rw [State.busError, pokeWord_platform]; exact h
    have h2 : (Machine.pokeWord s.skSp v s).bkptHit .data true (wordCycles s.skSp) =
        s.bkptHit .data true (wordCycles s.skSp) := by
      rw [State.bkptHit, pokeWord_platform]; rfl
    have mp : (s.poke .data s.skSp (hi v)).platform.externalMasters = false := m
    simp only [State.pushWord, State.writeWord, State.busWriteWord, State.masters_of_none m, h, Bool.false_eq_true,
      if_false, State.masters_of_none mp]
    rw [← Machine.pokeWord, State.noteAccess_clear h1, h2]
  rw [e]
  refine ⟨by simp, ?_, ?_, ?_, pokeWord_platform _ _ _, State.wf_pokeWord wf _ _⟩
  · exact State.peekWord_pokeWord wf s.skSp v
  · exact (((Frame.pokeWord s.skSp v s).trans (pokeWord_platform _ _ _) (Frame.noteBreak _ _)).trans
      (pokeWord_platform _ _ _) (Frame.setSkSp _ _)).mono (by simp) (by simp)
  · simp only [State.noteBreak, State.setSkSp_hid, pokeWord_hid]

/-- A word read where no cycle of the read ends in BERR. -/
theorem State.readWord_clear {s : State} (m : s.platform.externalMasters = false) {a : Addr}
    (h : s.busError .data false (wordCycles a) = false) :
    s.readWord a = (s.peekWord .data a, s.noteBreak (s.bkptHit .data false (wordCycles a))) := by
  simp only [State.readWord, State.busReadWord, State.masters_of_none m, h, Bool.false_eq_true, if_false,
    State.noteAccess_clear h, State.peekWord]

/-! ### What a double bus fault frees -/

/-- Bytes made `any value`: the memory at those addresses changes, and free values are used up. -/
theorem State.looseBytes_eq (places : List Addr) (s : State) :
    ∃ m d l, s.looseBytes places = { s with mem := m, draws := d, stores := l } := by
  induction places generalizing s with
  | nil => exact ⟨s.mem, s.draws, s.stores, rfl⟩
  | cons a rest ih =>
    obtain ⟨m, d, l, h⟩ := ih (s.bump.poke .data a (Config.anyByte s.draws))
    exact ⟨m, d, l, h⟩

theorem Frame.looseBytes (places : List Addr) (s : State) : Frame [] places s (s.looseBytes places) := by
  induction places generalizing s with
  | nil => exact Frame.refl s
  | cons a rest ih =>
    have f0 : Frame [] [] s s.bump := Frame.of_parts rfl rfl rfl fun l _ => by
      cases l <;> first | exact rfl | exact ⟨rfl, rfl⟩
    exact ((f0.trans rfl (Frame.poke a (Config.anyByte s.draws) s.bump)).trans rfl (ih _)).mono (by simp) (by simp)

/-- Exception processing abandoned: the frame and SK : SP alone (60_exceptions.md R652). -/
theorem Frame.abandonFrame (top : Addr) (words : Nat) (s : State) :
    Frame [.sp, .sk] (frameAddresses top words) s (s.abandonFrame top words) := by
  have f0 (t : State) : Frame [] [] t t.bump.bump := Frame.of_parts rfl rfl rfl fun l _ => by
    cases l <;> first | exact rfl | exact ⟨rfl, rfl⟩
  obtain ⟨m, d, l, h⟩ := s.looseBytes_eq (frameAddresses top words)
  have p : (s.looseBytes (frameAddresses top words)).platform = s.platform := by rw [h]
  exact (((Frame.looseBytes (frameAddresses top words) s).trans p (f0 _)).trans p (Frame.setSkSp _ _)).mono (by simp)
    (by simp)

/-! ### Taking an exception -/

/-- A vector loaded into PC with PK clear: execution goes to it with bit 0 zero (10_state.md R34). -/
theorem goesTo_vector (w : Word) (s : State) : GoesTo w.toNat (s.jumpTo (zext20 w)) := by
  have := w.isLt
  exact goesTo_jumpTo (by rw [toNat_zext20]; omega) s

/-- The interrupt mask that an exception leaves (60_exceptions.md R683). -/
def ipAfter (k : ExcKind) (s : State) : BitVec 3 :=
  match k with
  | .interrupt level => level
  | _ => s.ccr.ip

/-- An acknowledge cycle changes the mask, the pending request and the events at most (60_exceptions.md R661, R670). -/
def acknowledgeLocs (k : ExcKind) : List Loc :=
  match k with
  | .interrupt _ => [.irq7Pending, .events]
  | .bkpt => [.events]
  | _ => []

/-- The output of an acknowledge cycle (60_exceptions.md R661, R670). -/
def acknowledgeEvents (k : ExcKind) : List Event :=
  match k with
  | .interrupt level => [.iack level]
  | .bkpt => [.bkptAck]
  | _ => []

/-- Level 7 takes the pending request (60_exceptions.md R672). -/
def irq7After (k : ExcKind) (s : State) : Bool :=
  match k with
  | .interrupt level => s.hid.irq7Pending && !(level == 7#3)
  | _ => s.hid.irq7Pending

theorem Frame.acknowledge (k : ExcKind) (s : State) : Frame (.ip :: acknowledgeLocs k) [] s (s.acknowledge k) := by
  cases k <;> refine Frame.of_parts rfl rfl rfl fun l h => ?_ <;> simp only [acknowledgeLocs] at h <;> cases l <;>
    first | exact absurd (by decide) h | exact rfl | exact ⟨rfl, rfl⟩

/-- A part that is in fact the same may be left out of a frame. -/
theorem Frame.drop {may may' : List Loc} {bytes : List Addr} {s t : State} (h : Frame may bytes s t) (l : Loc)
    (hl : l.kept s t) (hm : ∀ x, x ∈ may → x = l ∨ x ∈ may') : Frame may' bytes s t :=
  ⟨fun x n => if e : x = l then e ▸ hl else h.parts x fun m => n ((hm x m).resolve_left e), h.data, h.program⟩

/-- Taking an exception where none of its transfers ends in BERR: the frame, the vector, the mask, what an acknowledge
cycle changes, the breakpoint latch, and nothing else (60_exceptions.md R683, R660). -/
theorem State.EntryClear.takeException {s : State} (k : ExcKind) (h : s.EntryClear (vectorNumber s.platform k))
    (wf : Memory.wf s.mem = true) (ret : Addr) :
    Entered (vectorNumber s.platform k) ret (ipAfter k s) (.bkptPending :: acknowledgeLocs k) s
        (s.takeException k ret) ∧
      (s.takeException k ret).hid.bkptPending = (s.hid.bkptPending || s.entryBreak (vectorNumber s.platform k)) ∧
      (s.takeException k ret).hid.irq7Pending = irq7After k s ∧
      (s.takeException k ret).events = s.events ++ acknowledgeEvents k := by
  have he := h.no_error
  simp only [State.entryError, Bool.or_eq_false_iff] at he
  obtain ⟨⟨e1, e2⟩, e3⟩ := he
  obtain ⟨s1, r1, f1, b1, q1, w1⟩ := State.pushWord_clear (s := s.setRun .running) h.no_masters e1 wf (offset ret)
  have f0 := (Frame.setRun .running s).trans rfl f1
  unfold State.takeException
  dsimp only
  generalize (s.setRun .running).pushWord (offset ret) = t1 at *
  have run1 : t1.run = .running := f1.parts .run (by decide)
  rw [if_pos run1]
  have s1' : t1.skSp = s.skSp - 2 := s1
  obtain ⟨s2, r2, f2, b2, q2, w2⟩ := State.pushWord_clear (s := t1) (by rw [q1]; exact h.no_masters)
    (by rw [s1', State.busError, q1]; exact e2) w1 (s.ccr.pack (bank ret))
  have f3 := f0.trans q1 f2
  generalize t1.pushWord (s.ccr.pack (bank ret)) = t2 at *
  have run2 : t2.run = .running := (f2.parts .run (by decide)).trans run1
  rw [if_pos run2]
  have pq : t2.platform = s.platform := q2.trans q1
  have pa : (t2.acknowledge k).platform = t2.platform := by cases k <;> rfl
  have ra : (t2.acknowledge k).run = .running := by cases k <;> exact run2
  have sa : (t2.acknowledge k).skSp = t2.skSp := by cases k <;> rfl
  have wa : ∀ sp x, (t2.acknowledge k).peekWord sp x = t2.peekWord sp x := by cases k <;> exact fun _ _ => rfl
  have ba : (t2.acknowledge k).hid.bkptPending = t2.hid.bkptPending := by cases k <;> rfl
  have ia : (t2.acknowledge k).ccr.ip = ipAfter k s := by
    cases k <;> first | rfl | exact f3.parts .ip (by decide)
  have na : (t2.acknowledge k).hid.irq7Pending = irq7After k s := by
    have := f3.parts .irq7Pending (by decide)
    cases k <;> simp only [State.acknowledge, irq7After] <;> rw [this]
  have va : (t2.acknowledge k).events = s.events ++ acknowledgeEvents k := by
    have := f3.parts .events (by decide)
    cases k <;> simp only [State.acknowledge, acknowledgeEvents, List.append_nil] <;> rw [this]
  have f4 := f3.trans pq (Frame.acknowledge k t2)
  have fp : t2.peekWord .data s.skSp = offset ret := by
    refine Eq.trans ?_ r1
    have h0 := f2.data s.skSp (by
      simp only [s1', wordAt, List.mem_cons, List.not_mem_nil, or_false, not_or]; bv_omega)
    have h1 := f2.data (s.skSp + 1) (by
      simp only [s1', wordAt, List.mem_cons, List.not_mem_nil, or_false, not_or]; bv_omega)
    rw [State.peekWord, h0, h1]
    rfl
  have fc : t2.peekWord .data (s.skSp - 2) = s.ccr.pack (bank ret) := by rw [← s1']; exact r2
  have sk : t2.skSp = s.skSp - 4 := by rw [s2, s1']; bv_omega
  have b3 : t2.hid.bkptPending = (s.hid.bkptPending || s.bkptHit .data true (wordCycles s.skSp) ||
      s.bkptHit .data true (wordCycles (s.skSp - 2))) := by
    rw [b2, b1, s1', State.bkptHit, State.bkptHit, State.bkptHit, q1]
    rfl
  have pu : (t2.acknowledge k).platform = s.platform := pa.trans pq
  generalize t2.acknowledge k = u at *
  have eu : u.enterHandler k =
      (u.noteBreak (u.bkptHit .data false (wordCycles (vectorAddress (vectorNumber s.platform k))))).beginHandler
        (zext20 (u.peekWord .data (vectorAddress (vectorNumber s.platform k)))) := by
    simp only [State.enterHandler, pu]
    rw [State.readWord_clear (by rw [pu]; exact h.no_masters) (by rw [State.busError, pu]; exact e3)]
    simp only [State.noteBreak, ra, if_true]
  have f5 := f4.trans pu (Frame.noteBreak (u.bkptHit .data false
    (wordCycles (vectorAddress (vectorNumber s.platform k)))) u)
  have f6 := f5.trans pu (Frame.beginHandler (zext20 (u.peekWord .data (vectorAddress (vectorNumber s.platform k)))) _)
  have ru : (u.enterHandler k).run = .running := by rw [eu]; exact ra
  rw [if_pos ru, h.no_error]
  simp only [State.berrAtOnce, Bool.false_eq_true, if_false]
  rw [eu]
  refine ⟨⟨⟨?_, ?_, ?_⟩, ?_, ?_, ?_, ?_, f6.mono (fun l => ?_) (fun x => ?_)⟩, ?_, ?_, ?_⟩
  · rw [State.skSp_beginHandler, State.skSp_noteBreak, sa, sk]
  · rw [State.peekWord_beginHandler, State.peekWord_noteBreak, wa, fp]
  · rw [State.peekWord_beginHandler, State.peekWord_noteBreak, wa, fc]
  · rw [State.peekWord_beginHandler, State.peekWord_noteBreak]
    exact goesTo_vector (u.peekWord .data (vectorAddress (vectorNumber s.platform k)))
      (u.noteBreak (u.bkptHit .data false (wordCycles (vectorAddress (vectorNumber s.platform k)))))
  · rw [State.beginHandler_ccr, State.noteBreak_ccr, ia]
  · rw [State.beginHandler_run, State.noteBreak_run, ra]
  · rw [State.beginHandler_hid]
  · simp only [List.mem_append, List.mem_cons, List.not_mem_nil, or_false]
    tauto
  · simp only [frameBytes, List.append_nil, List.nil_append, State.skSp_setRun, s1', imp_self]
  · rw [State.beginHandler_hid, State.noteBreak_hid, ba, b3, State.entryBreak, ← vectorAddress]
    simp only [State.bkptHit, pu, Bool.or_assoc]
  · rw [State.beginHandler_hid, State.noteBreak_hid, na]
  · rw [State.beginHandler_events, State.noteBreak_events, va]

/-- A quiet platform lets every exception complete. -/
theorem State.Quiet.entryClear {s : State} (h : s.Quiet) (n : Nat) : s.EntryClear n :=
  ⟨by simp only [State.entryError, h.busError, Bool.or_self], h.no_masters⟩

theorem State.Quiet.entryBreak {s : State} (h : s.Quiet) (n : Nat) : s.entryBreak n = false := by
  simp only [State.entryBreak, h.bkptHit, Bool.or_self]

/-- Taking an exception on a quiet platform: the frame, the vector, the mask, and nothing else but what an acknowledge
cycle changes (60_exceptions.md R683). -/
theorem State.Quiet.takeException_entered {s : State} (h : s.Quiet) (wf : Memory.wf s.mem = true) (k : ExcKind)
    (ret : Addr) :
    Entered (vectorNumber s.platform k) ret (ipAfter k s) (acknowledgeLocs k) s (s.takeException k ret) := by
  obtain ⟨⟨a, b, c, d, e, f⟩, p, _, _⟩ := State.EntryClear.takeException k (h.entryClear _) wf ret
  rw [h.entryBreak, Bool.or_false] at p
  exact ⟨a, b, c, d, e, f.drop .bkptPending p fun x => by
    simp only [List.mem_append, List.mem_cons]
    tauto⟩

/-- An exception other than an interrupt and a breakpoint changes nothing but what every exception changes
(60_exceptions.md R683). -/
theorem State.Quiet.takeException_plain {s : State} (h : s.Quiet) (wf : Memory.wf s.mem = true) (k : ExcKind)
    (hk : k = .berr ∨ k = .swi ∨ k = .illegal ∨ k = .divZero) (ret : Addr) :
    Entered (vectorNumber s.platform k) ret s.ccr.ip [] s (s.takeException k ret) := by
  have e : ipAfter k s = s.ccr.ip := by rcases hk with rfl | rfl | rfl | rfl <;> rfl
  have m : acknowledgeLocs k = [] := by rcases hk with rfl | rfl | rfl | rfl <;> rfl
  rw [← e, ← m]
  exact h.takeException_entered wf k ret

end Sys2Proof.Machine
end

