-- ==== Sys2Proof/Tests/Slice0.lean ====
section
/-!
SUPPORT. Tests: the checks of WellFormed, a word of every instruction, single steps with the results of
spec/95_test_vectors.md, and for each statement with premises a witness that meets them.
-/

namespace Sys2Proof.Tests

open Sys2Proof.Machine

/-! ### Helpers -/

/-- Every row's three words decode to its instruction. -/
def decodes (rows : List (Word × Word × Word × Instr)) : Bool :=
  rows.all fun r => decode r.1 r.2.1 r.2.2.1 == .ok r.2.2.2

/-- Bytes stored from an address on. -/
def place (m : Memory) (a : Nat) (bytes : List Byte) : Memory :=
  match bytes with
  | [] => m
  | b :: rest => place (Memory.set m a b) (a + 1) rest

/-- The defaults of 95_test_vectors.md section 3: CCR[15:4], the address of the instruction, its bytes, and further
bytes of memory; SK : SP is $00FFE, every other register 0. -/
def base (ccr : Word) (ia : Addr) (code : List Byte) (cells : List (Nat × List Byte)) : State :=
  { State.reset with
    sp := 0x0FFE#16
    pc := ia
    ccr := Ccr.unpack ccr
    hid := { State.reset.hid with irqInhibit := false, faultWindow := false }
    mem := cells.foldl (fun m c => place m c.1 c.2) (place [] ia.toNat code) }

/-- The defaults with a NOP. -/
def start : State := base 0x00E0#16 0x00400#20 [0x27#8, 0x4C#8] []

/-- The outcome is a next state that passes every check. -/
def checks (o : Host.Outcome State Fault Refusal) (f : State → List Bool) : Bool :=
  match o with
  | .next t => (f t).all id
  | .fault _ => false
  | .refused _ => false

/-- One step of a state passes every check. -/
def runs (s : State) (f : State → List Bool) : Bool := checks (step s) f

/-! ### WellFormed refuses the forms an instruction does not have (30_encoding.md R174) -/

theorem test_no_accumulator_offset : (Instr.com (.eoff .x)).wellFormed = false := by decide
theorem test_no_word_ind8 : (Instr.comw (.ind8 .x 0x00#8)).wellFormed = false := by decide
theorem test_no_word_offset : (Instr.ste (.eoff .y)).wellFormed = false := by decide
theorem test_no_imm8_for_d : (Instr.subd (.imm8 0x01#8)).wellFormed = false := by decide
theorem test_no_imm8_for_e : (Instr.sube (.imm8 0x01#8)).wellFormed = false := by decide
theorem test_no_ind8_for_adde : (Instr.adde (.mem (.ind8 .x 0x01#8))).wellFormed = false := by decide
theorem test_no_offset_for_index : (Instr.ldx (.mem (.eoff .x))).wellFormed = false := by decide
theorem test_no_imm8_for_index : (Instr.cpz (.imm8 0x01#8)).wellFormed = false := by decide

/-! ### The opcode map has the defined cells that 30_encoding.md R157 counts -/

theorem test_page0_cells :
    ((List.range 256).filter fun k => (page0 (BitVec.ofNat 8 k) 0#8 0#16 0#16).isSome).length = 246 := by
  decide +kernel
theorem test_page1_cells :
    ((List.range 256).filter fun k => (page1 (BitVec.ofNat 8 k) 0#16 0#16).isSome).length = 186 := by
  decide +kernel
theorem test_page2_cells :
    ((List.range 256).filter fun k => (page2 (BitVec.ofNat 8 k) 0#16 0#16).isSome).length = 202 := by
  decide +kernel
theorem test_page3_cells :
    ((List.range 256).filter fun k => (page3 (BitVec.ofNat 8 k) 0#16 0#16).isSome).length = 208 := by
  decide +kernel

/-! ### The host's numbering and the state after reset -/

theorem test_table_word : decodeTableWord 48 0x2002200037FF = some (.movw (.extToExt 0x2000#16 0x2002#16)) ∧
    decodeTableWord 32 0x123437B1 = some (.addd (.imm16 0x1234#16)) := by decide
theorem test_with_fetch_word : runs (State.reset.withFetchWord 16 0x274C) (fun t => [t.pc == 0x00002#20]) = true := by
  decide
/-- STED of zeros over its own zero operand changes nothing there (log entry 15). -/
theorem test_sted_after_reset : runs (State.reset.withFetchWord 32 0x2773) (fun t => [t.pc == 0x00004#20]) = true := by
  decide
/-- STAA that changes the next word is refused. -/
theorem test_store_into_prefetch : runs
    { base 0x00E0#16 0x00400#20 [0x17#8, 0x7A#8, 0x04#8, 0x04#8] [] with a := 0x55#8 } (fun _ => []) = false := by
  decide
theorem test_reset_memory : Memory.wf State.reset.mem = true ∧ Memory.wf State.reset.pmem = true := by decide

/-! ### Decoding: words written out from the rows of spec/opcode_table.json, one for each instruction -/

theorem test_decode_com_to_lsr : decodes
    [(0x209A#16, 0x0000#16, 0x0000#16, .com (.ind8 .z 0x9A#8)),
     (0x019A#16, 0x0000#16, 0x0000#16, .dec (.ind8 .x 0x9A#8)),
     (0x1722#16, 0xFFE0#16, 0x0000#16, .neg (.ind16 .z 0xFFE0#16)),
     (0x1703#16, 0xFFE0#16, 0x0000#16, .inc (.ind16 .x 0xFFE0#16)),
     (0x149A#16, 0x0000#16, 0x0000#16, .asl (.ind8 .y 0x9A#8)),
     (0x1735#16, 0x1234#16, 0x0000#16, .clr (.ext 0x1234#16)),
     (0x1716#16, 0xFFE0#16, 0x0000#16, .tst (.ind16 .y 0xFFE0#16)),
     (0x2881#16, 0xFFE0#16, 0x0000#16, .bclr 0x81#8 (.ind16 .z 0xFFE0#16)),
     (0x0981#16, 0xFFE0#16, 0x0000#16, .bset 0x81#8 (.ind16 .x 0xFFE0#16)),
     (0xDB81#16, 0x9AF6#16, 0x0000#16, .brclr 0x81#8 (.ind8 .y 0x9A#8 0xF6#8)),
     (0x3B81#16, 0x1234#16, 0x0102#16, .brset 0x81#8 (.ext 0x1234#16 0x0102#16)),
     (0x1C9A#16, 0x0000#16, 0x0000#16, .rol (.ind8 .y 0x9A#8)),
     (0x173D#16, 0x1234#16, 0x0000#16, .asr (.ext 0x1234#16)),
     (0x171E#16, 0xFFE0#16, 0x0000#16, .ror (.ind16 .y 0xFFE0#16)),
     (0x2F9A#16, 0x0000#16, 0x0000#16, .lsr (.ind8 .z 0x9A#8))] = true := by
  decide

theorem test_decode_movb_to_ldaa : decodes
    [(0x37FE#16, 0x1234#16, 0x5678#16, .movb (.extToExt 0x1234#16 0x5678#16)),
     (0x339A#16, 0x1234#16, 0x0000#16, .movw (.extToIxp 0x9A#8 0x1234#16)),
     (0x34C3#16, 0x0000#16, 0x0000#16, .pshm 0xC3#8),
     (0x35C3#16, 0x0000#16, 0x0000#16, .pulm 0xC3#8),
     (0x36F6#16, 0x0000#16, 0x0000#16, .bsr 0xF6#8),
     (0x3CC3#16, 0x0000#16, 0x0000#16, .aix (.imm8 0xC3#8)),
     (0x373D#16, 0xBEEF#16, 0x0000#16, .aiy (.imm16 0xBEEF#16)),
     (0x3EC3#16, 0x0000#16, 0x0000#16, .aiz (.imm8 0xC3#8)),
     (0x373F#16, 0xBEEF#16, 0x0000#16, .ais (.imm16 0xBEEF#16)),
     (0x509A#16, 0x0000#16, 0x0000#16, .suba (.mem (.ind8 .y 0x9A#8))),
     (0x1761#16, 0xFFE0#16, 0x0000#16, .adda (.mem (.ind16 .z 0xFFE0#16))),
     (0x429A#16, 0x0000#16, 0x0000#16, .sbca (.mem (.ind8 .x 0x9A#8))),
     (0x1753#16, 0xFFE0#16, 0x0000#16, .adca (.mem (.ind16 .y 0xFFE0#16))),
     (0x2764#16, 0x0000#16, 0x0000#16, .eora (.mem (.eoff .z))),
     (0x1745#16, 0xFFE0#16, 0x0000#16, .ldaa (.mem (.ind16 .x 0xFFE0#16)))] = true := by
  decide

theorem test_decode_anda_to_sbcd : decodes
    [(0x2756#16, 0x0000#16, 0x0000#16, .anda (.mem (.eoff .y))),
     (0x77C3#16, 0x0000#16, 0x0000#16, .oraa (.imm 0xC3#8)),
     (0x2748#16, 0x0000#16, 0x0000#16, .cmpa (.mem (.eoff .x))),
     (0x699A#16, 0x0000#16, 0x0000#16, .bita (.mem (.ind8 .z 0x9A#8))),
     (0x6A9A#16, 0x0000#16, 0x0000#16, .staa (.ind8 .z 0x9A#8)),
     (0x5B0F#16, 0xFFE0#16, 0x0000#16, .jmp (.ind20 .y 0xFFFE0#20)),
     (0x177C#16, 0x1234#16, 0x0000#16, .cpx (.mem (.ext 0x1234#16))),
     (0x174D#16, 0xFFE0#16, 0x0000#16, .cpy (.mem (.ind16 .x 0xFFE0#16))),
     (0x4E9A#16, 0x0000#16, 0x0000#16, .cpz (.mem (.ind8 .x 0x9A#8))),
     (0x176F#16, 0xFFE0#16, 0x0000#16, .cps (.mem (.ind16 .z 0xFFE0#16))),
     (0x7B2E#16, 0x0000#16, 0x0000#16, .mac 0x2E#8),
     (0x3751#16, 0xFFE0#16, 0x0000#16, .adde (.mem (.ind16 .y 0xFFE0#16))),
     (0x2780#16, 0x0000#16, 0x0000#16, .subd (.mem (.eoff .x))),
     (0x919A#16, 0x0000#16, 0x0000#16, .addd (.mem (.ind8 .y 0x9A#8))),
     (0xA29A#16, 0x0000#16, 0x0000#16, .sbcd (.mem (.ind8 .z 0x9A#8)))] = true := by
  decide

theorem test_decode_adcd_to_bhi : decodes
    [(0x37C3#16, 0xFFE0#16, 0x0000#16, .adcd (.mem (.ind16 .x 0xFFE0#16))),
     (0x949A#16, 0x0000#16, 0x0000#16, .eord (.mem (.ind8 .y 0x9A#8))),
     (0x37B5#16, 0xBEEF#16, 0x0000#16, .ldd (.imm16 0xBEEF#16)),
     (0x869A#16, 0x0000#16, 0x0000#16, .andd (.mem (.ind8 .x 0x9A#8))),
     (0x27A7#16, 0x0000#16, 0x0000#16, .ord (.mem (.eoff .z))),
     (0x37F8#16, 0x1234#16, 0x0000#16, .cpd (.mem (.ext 0x1234#16))),
     (0x990F#16, 0xFFE0#16, 0x0000#16, .jsr (.ind20 .y 0xFFFE0#20)),
     (0xAA9A#16, 0x0000#16, 0x0000#16, .std (.ind8 .z 0x9A#8)),
     (0x9C9A#16, 0x0000#16, 0x0000#16, .stx (.ind8 .y 0x9A#8)),
     (0x17BD#16, 0x1234#16, 0x0000#16, .sty (.ext 0x1234#16)),
     (0x179E#16, 0xFFE0#16, 0x0000#16, .stz (.ind16 .y 0xFFE0#16)),
     (0xAF9A#16, 0x0000#16, 0x0000#16, .sts (.ind8 .z 0x9A#8)),
     (0xB0F6#16, 0x0000#16, 0x0000#16, .bra 0xF6#8),
     (0xB1F6#16, 0x0000#16, 0x0000#16, .brn 0xF6#8),
     (0xB2F6#16, 0x0000#16, 0x0000#16, .bhi 0xF6#8)] = true := by
  decide

theorem test_decode_bls_to_addb : decodes
    [(0xB3F6#16, 0x0000#16, 0x0000#16, .bls 0xF6#8),
     (0xB4F6#16, 0x0000#16, 0x0000#16, .bcc 0xF6#8),
     (0xB5F6#16, 0x0000#16, 0x0000#16, .bcs 0xF6#8),
     (0xB6F6#16, 0x0000#16, 0x0000#16, .bne 0xF6#8),
     (0xB7F6#16, 0x0000#16, 0x0000#16, .beq 0xF6#8),
     (0xB8F6#16, 0x0000#16, 0x0000#16, .bvc 0xF6#8),
     (0xB9F6#16, 0x0000#16, 0x0000#16, .bvs 0xF6#8),
     (0xBAF6#16, 0x0000#16, 0x0000#16, .bpl 0xF6#8),
     (0xBBF6#16, 0x0000#16, 0x0000#16, .bmi 0xF6#8),
     (0xBCF6#16, 0x0000#16, 0x0000#16, .bge 0xF6#8),
     (0xBDF6#16, 0x0000#16, 0x0000#16, .blt 0xF6#8),
     (0xBEF6#16, 0x0000#16, 0x0000#16, .bgt 0xF6#8),
     (0xBFF6#16, 0x0000#16, 0x0000#16, .ble 0xF6#8),
     (0x17C0#16, 0xFFE0#16, 0x0000#16, .subb (.mem (.ind16 .x 0xFFE0#16))),
     (0x27D1#16, 0x0000#16, 0x0000#16, .addb (.mem (.eoff .y)))] = true := by
  decide

theorem test_decode_sbcb_to_comw : decodes
    [(0xF2C3#16, 0x0000#16, 0x0000#16, .sbcb (.imm 0xC3#8)),
     (0x27C3#16, 0x0000#16, 0x0000#16, .adcb (.mem (.eoff .x))),
     (0xE49A#16, 0x0000#16, 0x0000#16, .eorb (.mem (.ind8 .z 0x9A#8))),
     (0x17F5#16, 0x1234#16, 0x0000#16, .ldab (.mem (.ext 0x1234#16))),
     (0xD69A#16, 0x0000#16, 0x0000#16, .andb (.mem (.ind8 .y 0x9A#8))),
     (0x17E7#16, 0xFFE0#16, 0x0000#16, .orab (.mem (.ind16 .z 0xFFE0#16))),
     (0xC89A#16, 0x0000#16, 0x0000#16, .cmpb (.mem (.ind8 .x 0x9A#8))),
     (0x17D9#16, 0xFFE0#16, 0x0000#16, .bitb (.mem (.ind16 .y 0xFFE0#16))),
     (0x27CA#16, 0x0000#16, 0x0000#16, .stab (.eoff .x)),
     (0x17FC#16, 0x1234#16, 0x0000#16, .ldx (.mem (.ext 0x1234#16))),
     (0x17CD#16, 0xFFE0#16, 0x0000#16, .ldy (.mem (.ind16 .x 0xFFE0#16))),
     (0xCE9A#16, 0x0000#16, 0x0000#16, .ldz (.mem (.ind8 .x 0x9A#8))),
     (0x17EF#16, 0xFFE0#16, 0x0000#16, .lds (.mem (.ind16 .z 0xFFE0#16))),
     (0xFB2E#16, 0x0000#16, 0x0000#16, .rmac 0x2E#8),
     (0x2730#16, 0x1234#16, 0x0000#16, .comw (.ext 0x1234#16))] = true := by
  decide

theorem test_decode_decw_to_tzx : decodes
    [(0x2701#16, 0xFFE0#16, 0x0000#16, .decw (.ind16 .x 0xFFE0#16)),
     (0x2712#16, 0xFFE0#16, 0x0000#16, .negw (.ind16 .y 0xFFE0#16)),
     (0x2723#16, 0xFFE0#16, 0x0000#16, .incw (.ind16 .z 0xFFE0#16)),
     (0x2734#16, 0x1234#16, 0x0000#16, .aslw (.ext 0x1234#16)),
     (0x2705#16, 0xFFE0#16, 0x0000#16, .clrw (.ind16 .x 0xFFE0#16)),
     (0x2716#16, 0xFFE0#16, 0x0000#16, .tstw (.ind16 .y 0xFFE0#16)),
     (0x2728#16, 0xFFE0#16, 0x7F80#16, .bclrw 0x7F80#16 (.ind16 .z 0xFFE0#16)),
     (0x2739#16, 0x1234#16, 0x7F80#16, .bsetw 0x7F80#16 (.ext 0x1234#16)),
     (0x270C#16, 0xFFE0#16, 0x0000#16, .rolw (.ind16 .x 0xFFE0#16)),
     (0x271D#16, 0xFFE0#16, 0x0000#16, .asrw (.ind16 .y 0xFFE0#16)),
     (0x272E#16, 0xFFE0#16, 0x0000#16, .rorw (.ind16 .z 0xFFE0#16)),
     (0x273F#16, 0x1234#16, 0x0000#16, .lsrw (.ext 0x1234#16)),
     (0x274C#16, 0x0000#16, 0x0000#16, .nop),
     (0x274D#16, 0x0000#16, 0x0000#16, .tyx),
     (0x274E#16, 0x0000#16, 0x0000#16, .tzx)] = true := by
  decide

theorem test_decode_tsx_to_rti : decodes
    [(0x274F#16, 0x0000#16, 0x0000#16, .tsx),
     (0x275C#16, 0x0000#16, 0x0000#16, .txy),
     (0x275E#16, 0x0000#16, 0x0000#16, .tzy),
     (0x275F#16, 0x0000#16, 0x0000#16, .tsy),
     (0x276C#16, 0x0000#16, 0x0000#16, .txz),
     (0x276D#16, 0x0000#16, 0x0000#16, .tyz),
     (0x276F#16, 0x0000#16, 0x0000#16, .tsz),
     (0x2770#16, 0x0000#16, 0x0000#16, .come),
     (0x2771#16, 0x1234#16, 0x0000#16, .lded 0x1234#16),
     (0x2772#16, 0x0000#16, 0x0000#16, .nege),
     (0x2773#16, 0x1234#16, 0x0000#16, .sted 0x1234#16),
     (0x2774#16, 0x0000#16, 0x0000#16, .asle),
     (0x2775#16, 0x0000#16, 0x0000#16, .clre),
     (0x2776#16, 0x0000#16, 0x0000#16, .tste),
     (0x2777#16, 0x0000#16, 0x0000#16, .rti)] = true := by
  decide

theorem test_decode_ade_to_aslm : decodes
    [(0x2778#16, 0x0000#16, 0x0000#16, .ade),
     (0x2779#16, 0x0000#16, 0x0000#16, .sde),
     (0x277A#16, 0x0000#16, 0x0000#16, .xgde),
     (0x277B#16, 0x0000#16, 0x0000#16, .tde),
     (0x277C#16, 0x0000#16, 0x0000#16, .role),
     (0x277D#16, 0x0000#16, 0x0000#16, .asre),
     (0x277E#16, 0x0000#16, 0x0000#16, .rore),
     (0x277F#16, 0x0000#16, 0x0000#16, .lsre),
     (0x27B0#16, 0x0000#16, 0x0000#16, .ldhi),
     (0x27B1#16, 0x0000#16, 0x0000#16, .tedm),
     (0x27B2#16, 0x0000#16, 0x0000#16, .tem),
     (0x27B3#16, 0x0000#16, 0x0000#16, .tmxed),
     (0x27B4#16, 0x0000#16, 0x0000#16, .tmer),
     (0x27B5#16, 0x0000#16, 0x0000#16, .tmet),
     (0x27B6#16, 0x0000#16, 0x0000#16, .aslm)] = true := by
  decide

theorem test_decode_clrm_to_lbsr : decodes
    [(0x27B7#16, 0x0000#16, 0x0000#16, .clrm),
     (0x27B8#16, 0x0000#16, 0x0000#16, .pshmac),
     (0x27B9#16, 0x0000#16, 0x0000#16, .pulmac),
     (0x27BA#16, 0x0000#16, 0x0000#16, .asrm),
     (0x27BB#16, 0x0000#16, 0x0000#16, .tekb),
     (0x27F0#16, 0x0000#16, 0x0000#16, .comd),
     (0x27F1#16, 0x0000#16, 0x0000#16, .lpstop),
     (0x27F2#16, 0x0000#16, 0x0000#16, .negd),
     (0x27F3#16, 0x0000#16, 0x0000#16, .wai),
     (0x27F4#16, 0x0000#16, 0x0000#16, .asld),
     (0x27F5#16, 0x0000#16, 0x0000#16, .clrd),
     (0x27F6#16, 0x0000#16, 0x0000#16, .tstd),
     (0x27F7#16, 0x0000#16, 0x0000#16, .rts),
     (0x27F8#16, 0x0000#16, 0x0000#16, .sxt),
     (0x27F9#16, 0x0102#16, 0x0000#16, .lbsr 0x0102#16)] = true := by
  decide

theorem test_decode_tbek_to_psha : decodes
    [(0x27FA#16, 0x0000#16, 0x0000#16, .tbek),
     (0x27FB#16, 0x0000#16, 0x0000#16, .ted),
     (0x27FC#16, 0x0000#16, 0x0000#16, .rold),
     (0x27FD#16, 0x0000#16, 0x0000#16, .asrd),
     (0x27FE#16, 0x0000#16, 0x0000#16, .rord),
     (0x27FF#16, 0x0000#16, 0x0000#16, .lsrd),
     (0x3700#16, 0x0000#16, 0x0000#16, .coma),
     (0x3701#16, 0x0000#16, 0x0000#16, .deca),
     (0x3702#16, 0x0000#16, 0x0000#16, .nega),
     (0x3703#16, 0x0000#16, 0x0000#16, .inca),
     (0x3704#16, 0x0000#16, 0x0000#16, .asla),
     (0x3705#16, 0x0000#16, 0x0000#16, .clra),
     (0x3706#16, 0x0000#16, 0x0000#16, .tsta),
     (0x3707#16, 0x0000#16, 0x0000#16, .tba),
     (0x3708#16, 0x0000#16, 0x0000#16, .psha)] = true := by
  decide

theorem test_decode_pula_to_tab : decodes
    [(0x3709#16, 0x0000#16, 0x0000#16, .pula),
     (0x370A#16, 0x0000#16, 0x0000#16, .sba),
     (0x370B#16, 0x0000#16, 0x0000#16, .aba),
     (0x370C#16, 0x0000#16, 0x0000#16, .rola),
     (0x370D#16, 0x0000#16, 0x0000#16, .asra),
     (0x370E#16, 0x0000#16, 0x0000#16, .rora),
     (0x370F#16, 0x0000#16, 0x0000#16, .lsra),
     (0x3710#16, 0x0000#16, 0x0000#16, .comb),
     (0x3711#16, 0x0000#16, 0x0000#16, .decb),
     (0x3712#16, 0x0000#16, 0x0000#16, .negb),
     (0x3713#16, 0x0000#16, 0x0000#16, .incb),
     (0x3714#16, 0x0000#16, 0x0000#16, .aslb),
     (0x3715#16, 0x0000#16, 0x0000#16, .clrb),
     (0x3716#16, 0x0000#16, 0x0000#16, .tstb),
     (0x3717#16, 0x0000#16, 0x0000#16, .tab)] = true := by
  decide

theorem test_decode_pshb_to_emuls : decodes
    [(0x3718#16, 0x0000#16, 0x0000#16, .pshb),
     (0x3719#16, 0x0000#16, 0x0000#16, .pulb),
     (0x371A#16, 0x0000#16, 0x0000#16, .xgab),
     (0x371B#16, 0x0000#16, 0x0000#16, .cba),
     (0x371C#16, 0x0000#16, 0x0000#16, .rolb),
     (0x371D#16, 0x0000#16, 0x0000#16, .asrb),
     (0x371E#16, 0x0000#16, 0x0000#16, .rorb),
     (0x371F#16, 0x0000#16, 0x0000#16, .lsrb),
     (0x3720#16, 0x0000#16, 0x0000#16, .swi),
     (0x3721#16, 0x0000#16, 0x0000#16, .daa),
     (0x3722#16, 0x0000#16, 0x0000#16, .ace),
     (0x3723#16, 0x0000#16, 0x0000#16, .aced),
     (0x3724#16, 0x0000#16, 0x0000#16, .mul),
     (0x3725#16, 0x0000#16, 0x0000#16, .emul),
     (0x3726#16, 0x0000#16, 0x0000#16, .emuls)] = true := by
  decide

theorem test_decode_fmuls_to_ore : decodes
    [(0x3727#16, 0x0000#16, 0x0000#16, .fmuls),
     (0x3728#16, 0x0000#16, 0x0000#16, .ediv),
     (0x3729#16, 0x0000#16, 0x0000#16, .edivs),
     (0x372A#16, 0x0000#16, 0x0000#16, .idiv),
     (0x372B#16, 0x0000#16, 0x0000#16, .fdiv),
     (0x372C#16, 0x0000#16, 0x0000#16, .tpd),
     (0x372D#16, 0x0000#16, 0x0000#16, .tdp),
     (0x372F#16, 0x0000#16, 0x0000#16, .tdmsk),
     (0x3750#16, 0xFFE0#16, 0x0000#16, .sube (.mem (.ind16 .y 0xFFE0#16))),
     (0x3752#16, 0xFFE0#16, 0x0000#16, .sbce (.mem (.ind16 .y 0xFFE0#16))),
     (0x3753#16, 0xFFE0#16, 0x0000#16, .adce (.mem (.ind16 .y 0xFFE0#16))),
     (0x3754#16, 0xFFE0#16, 0x0000#16, .eore (.mem (.ind16 .y 0xFFE0#16))),
     (0x3755#16, 0xFFE0#16, 0x0000#16, .lde (.mem (.ind16 .y 0xFFE0#16))),
     (0x3756#16, 0xFFE0#16, 0x0000#16, .ande (.mem (.ind16 .y 0xFFE0#16))),
     (0x3757#16, 0xFFE0#16, 0x0000#16, .ore (.mem (.ind16 .y 0xFFE0#16)))] = true := by
  decide

theorem test_decode_cpe_to_tzs : decodes
    [(0x3758#16, 0xFFE0#16, 0x0000#16, .cpe (.mem (.ind16 .y 0xFFE0#16))),
     (0x373A#16, 0xBEEF#16, 0x0000#16, .andp 0xBEEF#16),
     (0x373B#16, 0xBEEF#16, 0x0000#16, .orp 0xBEEF#16),
     (0x377A#16, 0x1234#16, 0x0000#16, .ste (.ext 0x1234#16)),
     (0x374C#16, 0x0000#16, 0x0000#16, .xgex),
     (0x374D#16, 0x0000#16, 0x0000#16, .aex),
     (0x374E#16, 0x0000#16, 0x0000#16, .txs),
     (0x374F#16, 0x0000#16, 0x0000#16, .abx),
     (0x375C#16, 0x0000#16, 0x0000#16, .xgey),
     (0x375D#16, 0x0000#16, 0x0000#16, .aey),
     (0x375E#16, 0x0000#16, 0x0000#16, .tys),
     (0x375F#16, 0x0000#16, 0x0000#16, .aby),
     (0x376C#16, 0x0000#16, 0x0000#16, .xgez),
     (0x376D#16, 0x0000#16, 0x0000#16, .aez),
     (0x376E#16, 0x0000#16, 0x0000#16, .tzs)] = true := by
  decide

theorem test_decode_abz_to_lblt : decodes
    [(0x376F#16, 0x0000#16, 0x0000#16, .abz),
     (0x3780#16, 0x0102#16, 0x0000#16, .lbra 0x0102#16),
     (0x3781#16, 0x0102#16, 0x0000#16, .lbrn 0x0102#16),
     (0x3782#16, 0x0102#16, 0x0000#16, .lbhi 0x0102#16),
     (0x3783#16, 0x0102#16, 0x0000#16, .lbls 0x0102#16),
     (0x3784#16, 0x0102#16, 0x0000#16, .lbcc 0x0102#16),
     (0x3785#16, 0x0102#16, 0x0000#16, .lbcs 0x0102#16),
     (0x3786#16, 0x0102#16, 0x0000#16, .lbne 0x0102#16),
     (0x3787#16, 0x0102#16, 0x0000#16, .lbeq 0x0102#16),
     (0x3788#16, 0x0102#16, 0x0000#16, .lbvc 0x0102#16),
     (0x3789#16, 0x0102#16, 0x0000#16, .lbvs 0x0102#16),
     (0x378A#16, 0x0102#16, 0x0000#16, .lbpl 0x0102#16),
     (0x378B#16, 0x0102#16, 0x0000#16, .lbmi 0x0102#16),
     (0x378C#16, 0x0102#16, 0x0000#16, .lbge 0x0102#16),
     (0x378D#16, 0x0102#16, 0x0000#16, .lblt 0x0102#16)] = true := by
  decide

theorem test_decode_lbgt_to_adx : decodes
    [(0x378E#16, 0x0102#16, 0x0000#16, .lbgt 0x0102#16),
     (0x378F#16, 0x0102#16, 0x0000#16, .lble 0x0102#16),
     (0x3790#16, 0x0102#16, 0x0000#16, .lbmv 0x0102#16),
     (0x3791#16, 0x0102#16, 0x0000#16, .lbev 0x0102#16),
     (0x379C#16, 0x0000#16, 0x0000#16, .tbxk),
     (0x379D#16, 0x0000#16, 0x0000#16, .tbyk),
     (0x379E#16, 0x0000#16, 0x0000#16, .tbzk),
     (0x379F#16, 0x0000#16, 0x0000#16, .tbsk),
     (0x37A6#16, 0x0000#16, 0x0000#16, .bgnd),
     (0x37AC#16, 0x0000#16, 0x0000#16, .txkb),
     (0x37AD#16, 0x0000#16, 0x0000#16, .tykb),
     (0x37AE#16, 0x0000#16, 0x0000#16, .tzkb),
     (0x37AF#16, 0x0000#16, 0x0000#16, .tskb),
     (0x37CC#16, 0x0000#16, 0x0000#16, .xgdx),
     (0x37CD#16, 0x0000#16, 0x0000#16, .adx)] = true := by
  decide

theorem test_decode_xgdy_to_tap : decodes
    [(0x37DC#16, 0x0000#16, 0x0000#16, .xgdy),
     (0x37DD#16, 0x0000#16, 0x0000#16, .ady),
     (0x37EC#16, 0x0000#16, 0x0000#16, .xgdz),
     (0x37ED#16, 0x0000#16, 0x0000#16, .adz),
     (0x37FC#16, 0x0000#16, 0x0000#16, .tpa),
     (0x37FD#16, 0x0000#16, 0x0000#16, .tap)] = true := by
  decide

/-! ### One step, with the results spec/95_test_vectors.md gives -/

/-- 95_test_vectors.md, line 212. -/
theorem test_ldd_37d5ffff : runs
    { base 0x00E0#16 0x00400#20 [0x37#8, 0xD5#8, 0xFF#8, 0xFF#8] [(0x0FFFF, [0x12#8, 0x34#8])] with
      yk := 0x1#4, iy := 0x0000#16 }
    (fun t => [t.d == 0x1234#16, !t.ccr.n, !t.ccr.z, !t.ccr.v, !t.ccr.c, t.pc == 0x00404#20]) = true := by
  decide

/-- 95_test_vectors.md, line 217. -/
theorem test_std_aaff : runs
    { base 0x00E0#16 0x00400#20 [0xAA#8, 0xFF#8] [] with
      a := 0xBE#8, b := 0xEF#8, zk := 0x4#4, iz := 0x0000#16 }
    (fun t => [t.peekWord .data 0x400FF#20 == 0xBEEF#16, t.ccr.n, !t.ccr.z, !t.ccr.v, !t.ccr.c,
    t.pc == 0x00402#20]) = true := by
  decide

/-- 95_test_vectors.md, line 222. -/
theorem test_movw_37ff20002002 : runs
    { base 0x00E0#16 0x00400#20 [0x37#8, 0xFF#8, 0x20#8, 0x00#8, 0x20#8, 0x02#8] [(0x22000, [0x7F#8, 0xFE#8])] with
      ek := 0x2#4 }
    (fun t => [t.peekWord .data 0x22002#20 == 0x7FFE#16, !t.ccr.n, !t.ccr.z, !t.ccr.v, !t.ccr.c,
    t.pc == 0x00406#20]) = true := by
  decide

/-- 95_test_vectors.md, line 227. -/
theorem test_xgab_371a : runs
    { base 0x0FE0#16 0x00400#20 [0x37#8, 0x1A#8] [] with
      a := 0x12#8, b := 0x00#8 }
    (fun t => [t.d == 0x0012#16, t.ccr.n, t.ccr.z, t.ccr.v, t.ccr.c, t.pc == 0x00402#20]) = true := by
  decide

/-- 95_test_vectors.md, line 237. -/
theorem test_adca_7300 : runs
    { base 0x01E0#16 0x00400#20 [0x73#8, 0x00#8] [] with
      a := 0xFF#8 }
    (fun t => [t.a == 0x00#8, t.ccr.h, !t.ccr.n, t.ccr.z, !t.ccr.v, t.ccr.c, t.pc == 0x00402#20]) = true := by
  decide

/-- 95_test_vectors.md, line 242. -/
theorem test_addb_27e1 : runs
    { base 0x00E0#16 0x00400#20 [0x27#8, 0xE1#8] [(0x00000, [0x7F#8])] with
      b := 0x01#8, e := 0xFFFE#16, zk := 0x0#4, iz := 0x0002#16 }
    (fun t => [t.b == 0x80#8, t.ccr.h, t.ccr.n, !t.ccr.z, t.ccr.v, !t.ccr.c, t.pc == 0x00402#20]) = true := by
  decide

/-- 95_test_vectors.md, line 247. -/
theorem test_adde_37711000 : runs
    { base 0x00E0#16 0x00400#20 [0x37#8, 0x71#8, 0x10#8, 0x00#8] [(0x01000, [0x80#8, 0x00#8])] with
      e := 0x8000#16
    }
    (fun t => [t.e == 0x0000#16, !t.ccr.h, !t.ccr.n, t.ccr.z, t.ccr.v, t.ccr.c, t.pc == 0x00404#20]) = true := by
  decide

/-- 95_test_vectors.md, line 252. -/
theorem test_sbcd_37b20000 : runs
    { base 0x01E0#16 0x00400#20 [0x37#8, 0xB2#8, 0x00#8, 0x00#8] [] with
      a := 0x00#8, b := 0x00#8 }
    (fun t => [t.d == 0xFFFF#16, !t.ccr.h, t.ccr.n, !t.ccr.z, !t.ccr.v, t.ccr.c, t.pc == 0x00404#20]) = true := by
  decide

/-- 95_test_vectors.md, line 257. -/
theorem test_subd_8000 : runs
    { base 0x00E0#16 0x00400#20 [0x80#8, 0x00#8] [(0x02000, [0x12#8, 0x34#8])] with
      a := 0x12#8, b := 0x34#8, xk := 0x0#4, ix := 0x2000#16 }
    (fun t => [t.d == 0x0000#16, !t.ccr.h, !t.ccr.n, t.ccr.z, !t.ccr.v, !t.ccr.c, t.pc == 0x00402#20]) = true := by
  decide

/-- 95_test_vectors.md, line 262. -/
theorem test_cpd_37b8ffff : runs
    { base 0x00E0#16 0x00400#20 [0x37#8, 0xB8#8, 0xFF#8, 0xFF#8] [] with
      a := 0x00#8, b := 0x00#8 }
    (fun t => [!t.ccr.h, !t.ccr.n, !t.ccr.z, !t.ccr.v, t.ccr.c, t.pc == 0x00404#20]) = true := by
  decide

/-- 95_test_vectors.md, line 267. -/
theorem test_daa_3721 : runs
    { base 0x00E0#16 0x00400#20 [0x37#8, 0x21#8] [] with
      a := 0x45#8 }
    (fun t => [!t.ccr.h, !t.ccr.n, !t.ccr.z, !t.ccr.c, t.pc == 0x00402#20]) = true := by
  decide

/-- 95_test_vectors.md, line 272. -/
theorem test_tstb_3716 : runs
    { base 0x00E0#16 0x00400#20 [0x37#8, 0x16#8] [] with
      b := 0xFF#8 }
    (fun t => [!t.ccr.h, t.ccr.n, !t.ccr.z, !t.ccr.v, !t.ccr.c, t.pc == 0x00402#20]) = true := by
  decide

/-- 95_test_vectors.md, line 282. -/
theorem test_mul_3724 : runs
    { base 0x00E0#16 0x00400#20 [0x37#8, 0x24#8] [] with
      a := 0x10#8, b := 0x18#8 }
    (fun t => [t.d == 0x0180#16, !t.ccr.n, !t.ccr.z, !t.ccr.v, t.ccr.c, t.pc == 0x00402#20]) = true := by
  decide

/-- 95_test_vectors.md, line 287. -/
theorem test_fmuls_3727 : runs
    { base 0x00E0#16 0x00400#20 [0x37#8, 0x27#8] [] with
      e := 0x8000#16, a := 0x80#8, b := 0x00#8 }
    (fun t => [t.d == 0x0000#16, t.ccr.n, !t.ccr.z, t.ccr.v, !t.ccr.c, t.pc == 0x00402#20]) = true := by
  decide

/-- 95_test_vectors.md, line 292. -/
theorem test_ediv_3728 : runs
    { base 0x00E0#16 0x00400#20 [0x37#8, 0x28#8] [] with
      e := 0x0003#16, a := 0x00#8, b := 0x00#8, ix := 0x0003#16
    }
    (fun t => [t.ccr.v, t.pc == 0x00402#20]) = true := by
  decide

/-- 95_test_vectors.md, line 297. -/
theorem test_edivs_3729 : runs
    { base 0x00E0#16 0x00400#20 [0x37#8, 0x29#8] [] with
      e := 0x0000#16, a := 0x80#8, b := 0x00#8, ix := 0x0001#16
    }
    (fun t => [t.ccr.v, t.pc == 0x00402#20]) = true := by
  decide

/-- 95_test_vectors.md, line 302. -/
theorem test_fdiv_372b : runs
    { base 0x00E0#16 0x00400#20 [0x37#8, 0x2B#8] [] with
      a := 0x00#8, b := 0x00#8, ix := 0x0005#16 }
    (fun t => [t.d == 0x0000#16, t.ix == 0x0000#16, t.ccr.z, !t.ccr.v, !t.ccr.c, t.pc == 0x00402#20]) = true := by
  decide

/-- 95_test_vectors.md, line 307. -/
theorem test_inca_3703 : runs
    { base 0x00E0#16 0x00400#20 [0x37#8, 0x03#8] [] with
      a := 0xFF#8 }
    (fun t => [t.a == 0x00#8, !t.ccr.n, t.ccr.z, !t.ccr.v, !t.ccr.c, t.pc == 0x00402#20]) = true := by
  decide

/-- 95_test_vectors.md, line 312. -/
theorem test_decb_3711 : runs
    { base 0x00E0#16 0x00400#20 [0x37#8, 0x11#8] [] with
      b := 0x01#8 }
    (fun t => [t.b == 0x00#8, !t.ccr.n, t.ccr.z, !t.ccr.v, !t.ccr.c, t.pc == 0x00402#20]) = true := by
  decide

/-- 95_test_vectors.md, line 317. -/
theorem test_clrd_27f5 : runs
    { base 0x00E0#16 0x00400#20 [0x27#8, 0xF5#8] [] with
      a := 0x12#8, b := 0x34#8 }
    (fun t => [t.d == 0x0000#16, !t.ccr.n, t.ccr.z, !t.ccr.v, !t.ccr.c, t.pc == 0x00402#20]) = true := by
  decide

/-- 95_test_vectors.md, line 322. -/
theorem test_comb_3710 : runs
    { base 0x00E0#16 0x00400#20 [0x37#8, 0x10#8] [] with
      b := 0x00#8 }
    (fun t => [t.b == 0xFF#8, t.ccr.n, !t.ccr.z, !t.ccr.v, t.ccr.c, t.pc == 0x00402#20]) = true := by
  decide

/-- 95_test_vectors.md, line 327. -/
theorem test_neg_0200 : runs
    { base 0x01E0#16 0x00400#20 [0x02#8, 0x00#8] [(0x02000, [0x00#8])] with
      xk := 0x0#4, ix := 0x2000#16 }
    (fun t => [t.peek .data 0x02000#20 == 0x00#8, !t.ccr.n, t.ccr.z, !t.ccr.v, !t.ccr.c,
    t.pc == 0x00402#20]) = true := by
  decide

/-- 95_test_vectors.md, line 332. -/
theorem test_negw_27020000 : runs
    { base 0x00E0#16 0x00400#20 [0x27#8, 0x02#8, 0x00#8, 0x00#8] [(0x02000, [0x00#8, 0x01#8])] with
      xk := 0x0#4, ix := 0x2000#16 }
    (fun t => [t.peekWord .data 0x02000#20 == 0xFFFF#16, t.ccr.n, !t.ccr.z, !t.ccr.v, t.ccr.c,
    t.pc == 0x00404#20]) = true := by
  decide

/-- 95_test_vectors.md, line 342. -/
theorem test_eora_74ff : runs
    { base 0x00E0#16 0x00400#20 [0x74#8, 0xFF#8] [] with
      a := 0xFF#8 }
    (fun t => [t.a == 0x00#8, !t.ccr.n, t.ccr.z, !t.ccr.v, !t.ccr.c, t.pc == 0x00402#20]) = true := by
  decide

/-- 95_test_vectors.md, line 347. -/
theorem test_orab_27d7 : runs
    { base 0x00E0#16 0x00400#20 [0x27#8, 0xD7#8] [(0x02004, [0x80#8])] with
      b := 0x01#8, e := 0x0004#16, yk := 0x0#4, iy := 0x2000#16 }
    (fun t => [t.b == 0x81#8, t.ccr.n, !t.ccr.z, !t.ccr.v, !t.ccr.c, t.pc == 0x00402#20]) = true := by
  decide

/-- 95_test_vectors.md, line 352. -/
theorem test_bclr_17080f01 : runs
    { base 0x00E0#16 0x00400#20 [0x17#8, 0x08#8, 0x0F#8, 0x01#8] [(0x02001, [0xFF#8])] with
      xk := 0x0#4, ix := 0x2000#16 }
    (fun t => [t.peek .data 0x02001#20 == 0xF0#8, t.ccr.n, !t.ccr.z, !t.ccr.v, !t.ccr.c,
    t.pc == 0x00404#20]) = true := by
  decide

/-- 95_test_vectors.md, line 357. -/
theorem test_bset_39012000 : runs
    { base 0x01E0#16 0x00400#20 [0x39#8, 0x01#8, 0x20#8, 0x00#8] [(0x12000, [0x00#8])] with
      ek := 0x1#4 }
    (fun t => [t.peek .data 0x12000#20 == 0x01#8, !t.ccr.n, !t.ccr.z, !t.ccr.v, t.ccr.c,
    t.pc == 0x00404#20]) = true := by
  decide

/-- 95_test_vectors.md, line 362. -/
theorem test_asld_27f4 : runs
    { base 0x00E0#16 0x00400#20 [0x27#8, 0xF4#8] [] with
      a := 0xC0#8, b := 0x00#8 }
    (fun t => [t.d == 0x8000#16, t.ccr.n, !t.ccr.z, !t.ccr.v, t.ccr.c, t.pc == 0x00402#20]) = true := by
  decide

/-- 95_test_vectors.md, line 367. -/
theorem test_asrb_371d : runs
    { base 0x00E0#16 0x00400#20 [0x37#8, 0x1D#8] [] with
      b := 0x80#8 }
    (fun t => [t.b == 0xC0#8, t.ccr.n, !t.ccr.z, t.ccr.v, !t.ccr.c, t.pc == 0x00402#20]) = true := by
  decide

/-- 95_test_vectors.md, line 372. -/
theorem test_lsra_370f : runs
    { base 0x00E0#16 0x00400#20 [0x37#8, 0x0F#8] [] with
      a := 0x80#8 }
    (fun t => [t.a == 0x40#8, !t.ccr.n, !t.ccr.z, !t.ccr.v, !t.ccr.c, t.pc == 0x00402#20]) = true := by
  decide

/-- 95_test_vectors.md, line 377. -/
theorem test_rol_0c00 : runs
    { base 0x01E0#16 0x00400#20 [0x0C#8, 0x00#8] [(0x02000, [0x80#8])] with
      xk := 0x0#4, ix := 0x2000#16 }
    (fun t => [t.peek .data 0x02000#20 == 0x01#8, !t.ccr.n, !t.ccr.z, t.ccr.v, t.ccr.c,
    t.pc == 0x00402#20]) = true := by
  decide

/-- 95_test_vectors.md, line 382. -/
theorem test_rolw_273c2000 : runs
    (base 0x01E0#16 0x00400#20 [0x27#8, 0x3C#8, 0x20#8, 0x00#8] [(0x02000, [0x00#8, 0x00#8])])
    (fun t => [t.peekWord .data 0x02000#20 == 0x0001#16, !t.ccr.n, !t.ccr.z, !t.ccr.v, !t.ccr.c,
    t.pc == 0x00404#20]) = true := by
  decide

/-- 95_test_vectors.md, line 387. -/
theorem test_rore_277e : runs
    { base 0x01E0#16 0x00400#20 [0x27#8, 0x7E#8] [] with
      e := 0x0002#16 }
    (fun t => [t.e == 0x8001#16, t.ccr.n, !t.ccr.z, t.ccr.v, !t.ccr.c, t.pc == 0x00402#20]) = true := by
  decide

/-- 95_test_vectors.md, line 418. -/
theorem test_bra_b0fa : runs
    (base 0x00E0#16 0x00400#20 [0xB0#8, 0xFA#8] [])
    (fun t => [!t.ccr.n, !t.ccr.z, !t.ccr.v, !t.ccr.c, t.pc == 0x00400#20]) = true := by
  decide

/-- 95_test_vectors.md, line 423. -/
theorem test_lbra_37808000 : runs
    (base 0x00E0#16 0x10000#20 [0x37#8, 0x80#8, 0x80#8, 0x00#8] [])
    (fun t => [!t.ccr.n, !t.ccr.z, !t.ccr.v, !t.ccr.c, t.pc == 0x08006#20]) = true := by
  decide

/-- 95_test_vectors.md, line 428. -/
theorem test_brclr_3a002000fffa : runs
    (base 0x00E0#16 0x00400#20 [0x3A#8, 0x00#8, 0x20#8, 0x00#8, 0xFF#8, 0xFA#8] [(0x02000, [0xFF#8])])
    (fun t => [!t.ccr.n, !t.ccr.z, !t.ccr.v, !t.ccr.c, t.pc == 0x00400#20]) = true := by
  decide

/-- 95_test_vectors.md, line 433. -/
theorem test_jmp_7aa31235 : runs
    (base 0x00E0#16 0x00400#20 [0x7A#8, 0xA3#8, 0x12#8, 0x35#8] [])
    (fun t => [!t.ccr.n, !t.ccr.z, !t.ccr.v, !t.ccr.c, t.pc == 0x31234#20]) = true := by
  decide

/-- 95_test_vectors.md, line 438. -/
theorem test_bsr_3610 : runs
    (base 0x00E0#16 0x00200#20 [0x36#8, 0x10#8] [])
    (fun t => [t.sp == 0x0FFA#16, t.peekWord .data 0x00FFE#20 == 0x0204#16,
    t.peekWord .data 0x00FFC#20 == 0x00E0#16, !t.ccr.n, !t.ccr.z, !t.ccr.v, !t.ccr.c, t.pc == 0x00216#20]) = true := by
  decide

/-- 95_test_vectors.md, line 443. -/
theorem test_rti_2777 : runs
    { base 0x00E0#16 0x04000#20 [0x27#8, 0x77#8] [(0x00FFC, [0x85#8, 0x21#8]), (0x00FFE, [0x01#8, 0x08#8])] with
      sp := 0x0FFA#16 }
    (fun t => [t.sp == 0x0FFE#16, t.ccr.s, !t.ccr.mv, !t.ccr.h, !t.ccr.ev, !t.ccr.n, t.ccr.z, !t.ccr.v,
    t.ccr.c, t.ccr.ip == 1#3, !t.ccr.sm, t.pc == 0x10102#20]) = true := by
  decide

/-- 95_test_vectors.md, line 453. -/
theorem test_adx_37cd : runs
    { base 0x00E0#16 0x00400#20 [0x37#8, 0xCD#8] [] with
      a := 0xFF#8, b := 0xFF#8, xk := 0x1#4, ix := 0x0000#16 }
    (fun t => [t.ix == 0xFFFF#16, t.xk == 0x0#4, !t.ccr.n, !t.ccr.z, !t.ccr.v, !t.ccr.c,
    t.pc == 0x00402#20]) = true := by
  decide

/-- 95_test_vectors.md, line 458. -/
theorem test_aez_376d : runs
    { base 0x00E0#16 0x00400#20 [0x37#8, 0x6D#8] [] with
      e := 0xFFFE#16, zk := 0x0#4, iz := 0x0001#16 }
    (fun t => [t.iz == 0xFFFF#16, t.zk == 0xF#4, !t.ccr.n, !t.ccr.z, !t.ccr.v, !t.ccr.c,
    t.pc == 0x00402#20]) = true := by
  decide

/-- 95_test_vectors.md, line 463. -/
theorem test_ais_3ffa : runs
    { base 0x04E0#16 0x00400#20 [0x3F#8, 0xFA#8] [] with
      sk := 0x1#4, sp := 0x0002#16 }
    (fun t => [t.sp == 0xFFFC#16, t.sk == 0x0#4, !t.ccr.n, t.ccr.z, !t.ccr.v, !t.ccr.c,
    t.pc == 0x00402#20]) = true := by
  decide

/-- 95_test_vectors.md, line 468. -/
theorem test_cps_377f0ffe : runs
    (base 0x00E0#16 0x00400#20 [0x37#8, 0x7F#8, 0x0F#8, 0xFE#8] [])
    (fun t => [!t.ccr.n, t.ccr.z, !t.ccr.v, !t.ccr.c, t.pc == 0x00404#20]) = true := by
  decide

/-- 95_test_vectors.md, line 473. -/
theorem test_stx_8c00 : runs
    { base 0x00E0#16 0x00400#20 [0x8C#8, 0x00#8] [] with
      xk := 0x1#4, ix := 0x2000#16 }
    (fun t => [t.peekWord .data 0x12000#20 == 0x2000#16, !t.ccr.n, !t.ccr.z, !t.ccr.v, !t.ccr.c,
    t.pc == 0x00402#20]) = true := by
  decide

/-- 95_test_vectors.md, line 478. -/
theorem test_tsy_275f : runs
    { base 0x00E0#16 0x00400#20 [0x27#8, 0x5F#8] [] with
      sk := 0x1#4, sp := 0x0FFA#16 }
    (fun t => [t.iy == 0x0FFC#16, t.yk == 0x1#4, !t.ccr.n, !t.ccr.z, !t.ccr.v, !t.ccr.c,
    t.pc == 0x00402#20]) = true := by
  decide

/-- 95_test_vectors.md, line 483. -/
theorem test_txy_275c : runs
    { base 0x00E0#16 0x00400#20 [0x27#8, 0x5C#8] [] with
      xk := 0x5#4, ix := 0x1234#16 }
    (fun t => [t.iy == 0x1234#16, t.yk == 0x5#4, !t.ccr.n, !t.ccr.z, !t.ccr.v, !t.ccr.c,
    t.pc == 0x00402#20]) = true := by
  decide

/-- 95_test_vectors.md, line 488. -/
theorem test_tzy_275e : runs
    { base 0x00E0#16 0x00400#20 [0x27#8, 0x5E#8] [] with
      zk := 0x3#4, iz := 0xFFFF#16 }
    (fun t => [t.iy == 0xFFFF#16, t.yk == 0x3#4, !t.ccr.n, !t.ccr.z, !t.ccr.v, !t.ccr.c,
    t.pc == 0x00402#20]) = true := by
  decide

/-- 95_test_vectors.md, line 493. -/
theorem test_xgey_375c : runs
    { base 0x00E0#16 0x00400#20 [0x37#8, 0x5C#8] [] with
      e := 0xFFFF#16, yk := 0x0#4, iy := 0x0000#16 }
    (fun t => [t.e == 0x0000#16, t.iy == 0xFFFF#16, !t.ccr.n, !t.ccr.z, !t.ccr.v, !t.ccr.c,
    t.pc == 0x00402#20]) = true := by
  decide

/-- 95_test_vectors.md, line 498. -/
theorem test_tbyk_379d : runs
    { base 0x00E0#16 0x00400#20 [0x37#8, 0x9D#8] [] with
      b := 0x37#8 }
    (fun t => [t.yk == 0x7#4, !t.ccr.n, !t.ccr.z, !t.ccr.v, !t.ccr.c, t.pc == 0x00402#20]) = true := by
  decide

/-- 95_test_vectors.md, line 503. -/
theorem test_tykb_37ad : runs
    { base 0x00E0#16 0x00400#20 [0x37#8, 0xAD#8] [] with
      b := 0x00#8, yk := 0x9#4, iy := 0x0000#16 }
    (fun t => [t.b == 0x09#8, !t.ccr.n, !t.ccr.z, !t.ccr.v, !t.ccr.c, t.pc == 0x00402#20]) = true := by
  decide

/-- 95_test_vectors.md, line 513. -/
theorem test_pulb_3719 : runs
    { base 0x00E0#16 0x00400#20 [0x37#8, 0x19#8] [(0x00FFF, [0x88#8])] with
      sp := 0x0FFD#16 }
    (fun t => [t.b == 0x88#8, t.sp == 0x0FFE#16, !t.ccr.n, !t.ccr.z, !t.ccr.v, !t.ccr.c,
    t.pc == 0x00402#20]) = true := by
  decide

/-- 95_test_vectors.md, line 518. -/
theorem test_pulm_3500 : runs
    (base 0x00E0#16 0x00400#20 [0x35#8, 0x00#8] [])
    (fun t => [!t.ccr.n, !t.ccr.z, !t.ccr.v, !t.ccr.c, t.pc == 0x00402#20]) = true := by
  decide

/-- 95_test_vectors.md, line 523. -/
theorem test_tap_37fd : runs
    { base 0x0020#16 0x00400#20 [0x37#8, 0xFD#8] [] with
      a := 0xFF#8 }
    (fun t => [t.ccr.s, t.ccr.mv, t.ccr.h, t.ccr.ev, t.ccr.n, t.ccr.z, t.ccr.v, t.ccr.c, t.ccr.ip == 1#3,
    !t.ccr.sm, t.pc == 0x00402#20]) = true := by
  decide

/-- 95_test_vectors.md, line 533. -/
theorem test_mac_7b00 : runs
    { base 0x00E0#16 0x00400#20 [0x7B#8, 0x00#8] [(0x02000, [0x00#8, 0x01#8]), (0x03000, [0x00#8, 0x02#8])] with
      xk := 0x0#4, ix := 0x2000#16, yk := 0x0#4, iy := 0x3000#16
      mac := { State.reset.mac with hr := 0x8000#16, ir := 0x8000#16, am := 0x000000000#36 }
    }
    (fun t => [t.e == 0x8000#16, t.iz == 0x8000#16, t.mac.hr == 0x0001#16, t.mac.ir == 0x0002#16,
    t.mac.am == 0x080000000#36, !t.ccr.mv, t.ccr.ev, !t.ccr.n, !t.ccr.z, t.ccr.v, !t.ccr.c,
    t.pc == 0x00402#20]) = true := by
  decide

/-- 95_test_vectors.md, line 538. -/
theorem test_rmac_fb22 : runs
    { base 0x00E0#16 0x00400#20 [0xFB#8, 0x22#8] [(0x02002, [0x40#8, 0x00#8, 0x20#8, 0x00#8, 0x11#8, 0x11#8]),
    (0x03002, [0x40#8, 0x00#8, 0x40#8, 0x00#8, 0x22#8, 0x22#8])] with
      e := 0x0002#16, xk := 0x0#4, ix := 0x2000#16, yk := 0x0#4, iy := 0x3000#16, iz := 0x7777#16
      mac := { State.reset.mac with hr := 0x4000#16, ir := 0x4000#16, am := 0x000000000#36 }
    }
    (fun t => [t.ix == 0x2006#16, t.iy == 0x3006#16, t.mac.hr == 0x1111#16, t.mac.ir == 0x2222#16,
    t.mac.am == 0x050000000#36, !t.ccr.mv, !t.ccr.ev, !t.ccr.n, !t.ccr.z, !t.ccr.v, !t.ccr.c,
    t.pc == 0x00402#20]) = true := by
  decide

/-- 95_test_vectors.md, line 543. -/
theorem test_aced_3723 : runs
    { base 0x00E0#16 0x00400#20 [0x37#8, 0x23#8] [] with
      e := 0x8000#16, a := 0x00#8, b := 0x00#8, mac := { State.reset.mac with am := 0x800000000#36 } }
    (fun t => [t.mac.am == 0x780000000#36, t.ccr.mv, t.ccr.ev, !t.ccr.n, !t.ccr.z, !t.ccr.v, !t.ccr.c,
    t.pc == 0x00402#20]) = true := by
  decide

/-- 95_test_vectors.md, line 548. -/
theorem test_asrm_27ba : runs
    { base 0x00E0#16 0x00400#20 [0x27#8, 0xBA#8] [] with
      mac := { State.reset.mac with am := 0x800000000#36 } }
    (fun t => [t.mac.am == 0xC00000000#36, !t.ccr.mv, t.ccr.ev, t.ccr.n, !t.ccr.z, !t.ccr.v, !t.ccr.c,
    t.pc == 0x00402#20]) = true := by
  decide

/-- 95_test_vectors.md, line 553. -/
theorem test_tdmsk_372f : runs
    { base 0x00E0#16 0x00400#20 [0x37#8, 0x2F#8] [] with
      a := 0x1F#8, b := 0x07#8 }
    (fun t => [t.mac.xmsk == 0x1F#8, t.mac.ymsk == 0x07#8, !t.ccr.mv, !t.ccr.ev, !t.ccr.n, !t.ccr.z,
    !t.ccr.v, !t.ccr.c, t.pc == 0x00402#20]) = true := by
  decide

/-- 95_test_vectors.md, line 558. -/
theorem test_tmer_27b4 : runs
    { base 0x00E0#16 0x00400#20 [0x27#8, 0xB4#8] [] with
      mac := { State.reset.mac with am := 0x07FFF8000#36 } }
    (fun t => [t.e == 0x8000#16, !t.ccr.mv, t.ccr.ev, t.ccr.n, !t.ccr.z, !t.ccr.v, !t.ccr.c, !t.ccr.sm,
    t.pc == 0x00402#20]) = true := by
  decide

/-- 95_test_vectors.md, line 563. -/
theorem test_tmet_27b5 : runs
    { base 0x10F0#16 0x00400#20 [0x27#8, 0xB5#8] [] with
      mac := { State.reset.mac with am := 0xE00000000#36 } }
    (fun t => [t.e == 0x8000#16, !t.ccr.mv, t.ccr.ev, t.ccr.n, !t.ccr.z, !t.ccr.v, !t.ccr.c, t.ccr.sm,
    t.pc == 0x00402#20]) = true := by
  decide

/-- 95_test_vectors.md, line 568. -/
theorem test_pulmac_27b9 : runs
    { base 0x00E0#16 0x00400#20 [0x27#8, 0xB9#8] [(0x00FF4, [0x11#8, 0x11#8, 0x22#8, 0x22#8, 0x12#8, 0x34#8, 0xBC#8,
    0xD1#8, 0xFF#8, 0xF9#8, 0x0F#8, 0x07#8])] with
      sp := 0x0FF2#16 }
    (fun t => [t.sp == 0x0FFE#16, t.mac.hr == 0x1111#16, t.mac.ir == 0x2222#16,
    t.mac.am == 0x9BCD11234#36, t.mac.xmsk == 0x0F#8, t.mac.ymsk == 0x07#8, t.mac.sl, !t.ccr.mv,
    !t.ccr.ev, !t.ccr.n, !t.ccr.z, !t.ccr.v, !t.ccr.c, t.pc == 0x00402#20]) = true := by
  decide

/-! ### Exceptions, reset and background mode (95_test_vectors.md sections 3.10 to 3.12) -/

/-- An undefined opcode near the end of bank 3. -/
theorem test_illegal_across_banks : runs
    (base 0x85A0#16 0x3FFFE#20 [0x07#8] [(0x0000E, [0x20#8, 0x01#8])]) (fun t =>
      [t.pc == 0x02000#20, t.peekWord .data 0x00FFE#20 == 0x0006#16, t.peekWord .data 0x00FFC#20 == 0x85A4#16,
        t.sp == 0x0FFA#16, t.ccr.ip == 5#3, t.hid.irqInhibit]) = true := by
  decide

/-- The highest of several requests, with a device vector. -/
theorem test_interrupt_vector : runs
    { base 0x0060#16 0x00400#20 [] [(0x00080, [0x50#8, 0x00#8])] with
      script := [{ Pins.idle with irq := 0x52#8 }]
      platform := { iack := [.avec, .avec, .avec, .avec, .avec, .vector 0x40#8] } } (fun t =>
      [t.pc == 0x05000#20, t.peekWord .data 0x00FFE#20 == 0x0406#16, t.peekWord .data 0x00FFC#20 == 0x0060#16,
        t.ccr.ip == 6#3, t.events == [.iack 6#3]]) = true := by
  decide

/-- A breakpoint that is pending, with background mode disabled. -/
theorem test_breakpoint_exception : runs
    { base 0x00E0#16 0x00404#20 [] [(0x00008, [0x28#8, 0x00#8])] with
      hid := { start.hid with bkptPending := true } } (fun t =>
      [t.pc == 0x02800#20, t.peekWord .data 0x00FFE#20 == 0x040A#16, t.events == [.bkptAck]]) = true := by
  decide

/-- Reset from a running program. -/
theorem test_reset_sequence : runs
    { base 0x5F10#16 0x30000#20 [] [(0, [0xF2#8, 0x31#8, 0x02#8, 0x01#8, 0x0F#8, 0xFE#8, 0x12#8, 0x34#8])] with
      a := 0x55#8, ek := 0x3#4, sk := 0x7#4, script := [{ Pins.idle with reset := .between }] } (fun t =>
      [t.pc == 0x10200#20, t.skSp == 0x30FFE#20, t.zk == 0x2#4, t.iz == 0x1234#16, t.ek == 0x0#4,
        t.ccr.pack 0x1#4 == 0xDFE1#16, t.a == 0x55#8]) = true := by
  decide

/-- WPCSP: the program counter is the value less 6. -/
theorem test_bdm_wpcsp : runs
    { start with
      run := .background
      script := [{ Pins.idle with bdm := [0x1783#16, 0xFFF0#16, 0x0004#16, 0xABC2#16, 0x0001#16] }] } (fun t =>
      [t.pc == 0xFFFFE#20, t.skSp == 0x20001#20, t.events == [.bdmReply [0x0FFFF#17]]]) = true := by
  decide

/-- RDMEM of a word at an odd address. -/
theorem test_bdm_rdmem : runs
    { base 0x00E0#16 0x00400#20 [] [(0x12340, [0xAB#8, 0xCD#8, 0xEF#8, 0x01#8])] with
      run := .background
      script := [{ Pins.idle with bdm := [0x1784#16, 0x4001#16, 0x2341#16] }] } (fun t =>
      [t.events == [.bdmReply [0x0CDEF#17]]]) = true := by
  decide

/-- Another bus master writes before the first transfer and between the bytes of the second: LDAA sees the first, and LDD
the second in its low byte alone. -/
theorem test_other_master :
    let s := { start with
      platform := { start.platform with externalMasters := true }
      pins := { Pins.idle with writes := [[⟨.data, 0x01000#20, 0x55#8⟩], [], [⟨.data, 0x01000#20, 0xAA#8⟩, ⟨.data, 0x01001#20, 0x66#8⟩]] } }
    ((s.readByte 0x01000#20).1 == 0x55#8 &&
      ((s.readByte 0x01000#20).2.readWord 0x01000#20).1 == 0x5566#16) = true := by
  decide

/-- Every reset takes the BKPT sample afresh: enabled by one, disabled by the next (70_reset_and_hazards.md R724). -/
theorem test_bkpt_sampled_at_each_reset :
    let p := { Pins.idle with reset := .between, bdmEnabled := true }
    (runs { start with script := [p] } (fun t => [t.hid.bdmEnabled]) &&
      runs { start with hid := { start.hid with bdmEnabled := true }, script := [{ p with bdmEnabled := false }] }
        (fun t => [!t.hid.bdmEnabled])) = true := by
  decide

/-- With BERR_DELAY 1, an error on the prefetch of SWI keeps its countdown through the exception, and one on the frame
does not (60_exceptions.md R644, R651). -/
theorem test_berr_delay_of_swi :
    let s := base 0x00E0#16 0x00400#20 [0x37#8, 0x20#8] []
    let w (sp : Space) (write : Bool) (a : Nat) : Platform :=
      { berrDelay := true, busErrors := [{ space := sp, write := write, lo := a, hi := a }] }
    (runs { s with platform := w .program false 0x00402 } (fun t => [t.hid.berrLatch, t.hid.berrWait == 1]) &&
      runs { s with platform := w .data true 0x00FFE } (fun t => [t.hid.berrLatch, t.hid.berrWait == 0])) = true := by
  decide

/-! ### Witnesses: for each statement with premises, a state and operands that meet all of them together -/

theorem start_inv : start.Inv := ⟨by decide, by decide, by decide⟩
theorem start_quiet : start.Quiet := ⟨rfl, rfl, rfl⟩

/-- The inputs of an idle platform. -/
theorem idle_inputs {s : State} (h : s.script = []) : NextInputs Pins.idle [] s := Or.inr ⟨h, rfl, rfl⟩

theorem next_of {o : Host.Outcome State Fault Refusal} (h : checks o (fun _ => []) = true) : ∃ t, o = .next t := by
  cases o with
  | next t => exact ⟨t, rfl⟩
  | fault _ => exact absurd h Bool.false_ne_true
  | refused _ => exact absurd h Bool.false_ne_true

theorem no_request {p : Pins} {mask : BitVec 3} {s : State}
    (h : ((List.range 8).all fun l => l == 0 || !requests p mask s l) = true) : NoRequest p mask s := by
  intro l h1 h7
  have := List.all_eq_true.mp h l (List.mem_range.mpr (by omega))
  simpa [show l ≠ 0 by omega] using this

theorem top_request {p : Pins} {mask l : BitVec 3} {s : State}
    (h : (decide (1 ≤ l.toNat) && requests p mask s l.toNat &&
      (List.range 8).all fun k => decide (k ≤ l.toNat) || !requests p mask s k) = true) : TopRequest p mask s l := by
  simp only [Bool.and_eq_true, decide_eq_true_eq] at h
  refine ⟨h.1.1, h.1.2, fun k hk h7 => ?_⟩
  have := List.all_eq_true.mp h.2 k (List.mem_range.mpr (by omega))
  simpa [show ¬k ≤ l.toNat by omega] using this

theorem witness_DecodeEncode : (Instr.bsetw 0xFFFF#16 (.ext 0xFFFF#16)).wellFormed = true := by decide

/-- Each clause: one, two and three words; and the ignored nibble of JMP. -/
theorem witness_EncodeDecode :
    decodes [(0x7580#16, 0x0000#16, 0x0000#16, .ldaa (.imm 0x80#8)), (0x7AF3#16, 0x1234#16, 0x0000#16, .jmp (.ext20 0x31234#20)),
      (0x37FF#16, 0x2000#16, 0x2002#16, .movw (.extToExt 0x2000#16 0x2002#16))] = true := by
  decide

theorem witness_InvKept : start.Inv ∧ ∃ t, step start = .next t := ⟨start_inv, next_of (by decide)⟩

theorem witness_PlatformKept : ∃ t, step start = .next t := next_of (by decide)

theorem start_begins : BeginsInstruction Pins.idle start :=
  ⟨rfl, rfl, by decide, rfl, Or.inr (no_request (by decide))⟩

/-- The same on the state after reset, where interrupts are inhibited. -/
theorem reset_begins : BeginsInstruction Pins.idle State.reset := ⟨rfl, rfl, by decide, rfl, Or.inl rfl⟩

theorem witness_StepRunsDecoded :
    start.Quiet ∧ NextInputs Pins.idle [] start ∧ BeginsInstruction Pins.idle start ∧
      decode (start.peekWord .program start.pc) (start.peekWord .program (start.pc + 2))
        (start.peekWord .program (start.pc + 4)) = .ok .nop ∧
      Instr.nop.wellFormed = true ∧ ∃ t, exec .nop (start.begun Pins.idle []) = .next t :=
  ⟨start_quiet, idle_inputs rfl, start_begins, by rfl, rfl, ⟨_, rfl⟩⟩

theorem witness_IllegalOpcode :
    let s := base 0x00E0#16 0x00400#20 [0x07#8] []
    s.Inv ∧ s.Quiet ∧ NextInputs Pins.idle [] s ∧ BeginsInstruction Pins.idle s ∧
      decode (s.peekWord .program s.pc) (s.peekWord .program (s.pc + 2)) (s.peekWord .program (s.pc + 4)) =
        .error (.undefinedOpcode 0 0x07#8) :=
  ⟨⟨by decide, by decide, by decide⟩, ⟨rfl, rfl, rfl⟩, idle_inputs rfl,
    ⟨rfl, rfl, by decide, rfl, Or.inr (no_request (by decide))⟩, by rfl⟩

/-- Both clauses: RESET between steps and inside one. -/
theorem witness_ResetSequence :
    let p := { Pins.idle with reset := .between }
    let q := { Pins.idle with reset := .inside }
    let u := { start with script := [q] }
    (({ start with script := [p] } : State).Quiet ∧ NextInputs p [] { start with script := [p] } ∧ p.reset = .between) ∧
    u.Inv ∧ u.Quiet ∧ NextInputs q [] u ∧ q.reset = .inside ∧ ∃ v, stepBody u.takeInputs = .next v :=
  ⟨⟨⟨rfl, rfl, rfl⟩, Or.inl rfl, rfl⟩, ⟨by decide, by decide, by decide⟩, ⟨rfl, rfl, rfl⟩, Or.inl rfl, rfl,
    next_of (by decide)⟩

/-- Level 6 over the mask 5, with level 1 masked; and level 7 over the mask 7. -/
theorem witness_InterruptTaken :
    let p := { Pins.idle with irq := 0x42#8 }
    let q := { Pins.idle with irq := 0x80#8 }
    let s := { base 0x00A0#16 0x00400#20 [] [] with script := [p] }
    let u := { start with script := [q] }
    (s.Inv ∧ s.Quiet ∧ NextInputs p [] s ∧ p.reset = .off ∧ s.run = .running ∧ s.berrDue = false ∧
      s.hid.bkptPending = false ∧ s.hid.irqInhibit = false ∧ TopRequest p s.ccr.ip s 6#3) ∧
    u.Inv ∧ u.Quiet ∧ NextInputs q [] u ∧ q.reset = .off ∧ u.run = .running ∧ u.berrDue = false ∧
      u.hid.bkptPending = false ∧ u.hid.irqInhibit = false ∧ TopRequest q u.ccr.ip u 7#3 :=
  ⟨⟨⟨by decide, by decide, by decide⟩, ⟨rfl, rfl, rfl⟩, Or.inl rfl, rfl, rfl, by decide, rfl, rfl,
      top_request (by decide)⟩,
    ⟨by decide, by decide, by decide⟩, ⟨rfl, rfl, rfl⟩, Or.inl rfl, rfl, rfl, by decide, rfl, rfl,
    top_request (by decide)⟩

/-- Stopped with level 3 at the mask 3 (no request), and waiting with level 4 over it. -/
theorem witness_IdleUntilInterrupt :
    let p := { Pins.idle with irq := 0x08#8 }
    let q := { Pins.idle with irq := 0x10#8 }
    let s := { start with run := .stopped, hid := { start.hid with stopMask := 3#3 }, script := [p] }
    let u := { base 0x0060#16 0x00400#20 [] [] with run := .waiting, script := [q] }
    (s.Inv ∧ s.Quiet ∧ NextInputs p [] s ∧ p.reset = .off ∧ (s.run = .stopped ∧ 3#3 = s.hid.stopMask) ∧
      NoRequest p 3#3 s) ∧
    u.Inv ∧ u.Quiet ∧ NextInputs q [] u ∧ q.reset = .off ∧ (u.run = .waiting ∧ 3#3 = u.ccr.ip) ∧
      TopRequest q 3#3 u 4#3 :=
  ⟨⟨⟨by decide, by decide, by decide⟩, ⟨rfl, rfl, rfl⟩, Or.inl rfl, rfl, ⟨rfl, rfl⟩, no_request (by decide)⟩,
    ⟨by decide, by decide, by decide⟩, ⟨rfl, rfl, rfl⟩, Or.inl rfl, rfl, ⟨rfl, by decide⟩, top_request (by decide)⟩

/-- Data space from bank 2 up, the last stack word of `start` and the first words of `start`'s program end in BERR. -/
def errorPlatform : Platform :=
  { busErrors := [{ space := .data, write := false, lo := 0x20000, hi := 0xFFFFF },
      { space := .data, write := true, lo := 0x00FFE, hi := 0x00FFF },
      { space := .data, write := true, lo := 0x20000, hi := 0xFFFFF },
      { space := .program, write := false, lo := 0x00000, hi := 0x00401 }] }

/-- Each clause: a read and a write of a byte and of a word in bank 2. -/
theorem witness_BusErrorLatched :
    let s := { start with platform := errorPlatform, xk := 0x2#4 }
    s.Inv ∧ s.platform.bkpts = [] ∧ s.platform.externalMasters = false ∧ s.hid.faultWindow = false ∧
      s.busError .data false [ea (.ind16 .x 0x0000#16) s] = true ∧
      s.busError .data false (wordCycles (ea (.ind16 .x 0x0001#16) s)) = true ∧
      s.busError .data true [ea (.ind16 .x 0x0000#16) s] = true ∧
      s.busError .data true (wordCycles (ea (.ind16 .x 0x0001#16) s)) = true ∧
      (Instr.ldd (.mem (.ind16 .x 0x0001#16))).wellFormed = true ∧
      (Instr.std (.ind16 .x 0x0001#16)).wellFormed = true ∧ (Instr.lsr (.ind16 .x 0x0000#16)).wellFormed = true :=
  ⟨⟨by decide, by decide, by decide⟩, by decide⟩

/-- A bus error latched on a platform that has them, with a stack that does not. -/
theorem witness_BusErrorTaken :
    let s := { start with platform := errorPlatform, sp := 0x0800#16, hid := { start.hid with berrLatch := true } }
    s.Inv ∧ s.EntryClear 5 ∧ NextInputs Pins.idle [] s ∧ Pins.idle.reset = .off ∧ s.run = .running ∧
      s.berrDue = true :=
  ⟨⟨by decide, by decide, by decide⟩, ⟨by decide, rfl⟩, idle_inputs rfl, rfl, rfl, by decide⟩

/-- Each clause: the first stack write and, from another stack pointer, the second; the fetch of a handler and of the
first instruction after RESET; the reset vector; the processor halted. -/
theorem witness_DoubleBusFault :
    let s := { start with platform := errorPlatform, hid := { start.hid with berrLatch := true } }
    let v := { s with sp := 0x1000#16 }
    let w := { s with hid := { s.hid with faultWindow := true } }
    let x := { w with pc := 0x00400#20, hid := { w.hid with berrLatch := false } }
    let p := { Pins.idle with reset := .between }
    let u := { start with run := .halted }
    (NextInputs Pins.idle [] s ∧ Pins.idle.reset = .off ∧ s.run = .running ∧ s.berrDue = true ∧
      s.entryError 5 = true ∧ v.berrDue = true ∧ v.entryError 5 = true ∧ s.platform.externalMasters = false) ∧
    (BeginsInstruction Pins.idle w ∧ w.hid.faultWindow = true ∧
      w.busError .program false (wordCycles w.pc) = true ∧ BeginsInstruction Pins.idle x ∧
      x.hid.faultWindow = true ∧ x.busError .program false (wordCycles x.pc) = true) ∧
    (NextInputs p [] { s with script := [p] } ∧ p.reset = .between ∧
      s.busError .program false (wordCycles 0x00006#20) = true) ∧
    NextInputs Pins.idle [] u ∧ Pins.idle.reset = .off ∧ u.run = .halted :=
  ⟨⟨idle_inputs rfl, rfl, rfl, by decide, by decide, by decide, by decide, rfl⟩,
    ⟨⟨rfl, rfl, by decide, rfl, Or.inr (no_request (by decide))⟩, rfl, by decide,
      ⟨rfl, rfl, by decide, rfl, Or.inr (no_request (by decide))⟩, rfl, by decide⟩,
    ⟨Or.inl rfl, rfl, by decide⟩, idle_inputs rfl, rfl, rfl⟩

/-- Breakpoint pending on a platform that asserts BKPT, with background mode enabled and not. -/
theorem witness_BreakpointTaken :
    let s := { start with
      platform := { bkpts := [{ space := .data, write := true, lo := 0x00FFE, hi := 0x00FFE }] }
      hid := { start.hid with bkptPending := true } }
    let u := { s with hid := { s.hid with bdmEnabled := true } }
    (s.Inv ∧ s.EntryClear 4 ∧ NextInputs Pins.idle [] s ∧ Pins.idle.reset = .off ∧ s.run = .running ∧
      s.berrDue = false ∧ s.hid.bkptPending = true ∧ s.hid.bdmEnabled = false ∧ s.entryBreak 4 = true) ∧
    NextInputs Pins.idle [] u ∧ Pins.idle.reset = .off ∧ u.run = .running ∧ u.berrDue = false ∧
      u.hid.bkptPending = true ∧ u.hid.bdmEnabled = true :=
  ⟨⟨⟨by decide, by decide, by decide⟩, ⟨by decide, rfl⟩, idle_inputs rfl, rfl, rfl, by decide, rfl, rfl, by decide⟩,
    idle_inputs rfl, rfl, rfl, by decide, rfl, rfl⟩

/-- A state in background mode with a command on the pins of its next step. -/
def debugging (words : List Word) : State :=
  { start with run := .background, script := [{ Pins.idle with bdm := words }] }

/-- Each clause: no command, NOP, an unassigned word on either side of the assigned ones, GO, RPCSP, WPCSP, RREGM, WREGM
of no register and of all, RDMAC, WRMAC. -/
theorem witness_BackgroundControl :
    (∀ words ∈ [[], [0x1789#16], [0x177F#16], [0x178C#16], [0x1788#16], [0x1782#16],
        [0x1783#16, 0xFFF0#16, 0x0004#16, 0xABC2#16, 0x0001#16], [0x1780#16, 0x007F#16], [0x1781#16, 0xFF80#16],
        [0x1781#16, 0x007F#16, 1#16, 2#16, 3#16, 4#16, 5#16, 6#16, 7#16], [0x178A#16],
        [0x178B#16, 1#16, 2#16, 3#16, 4#16, 5#16, 6#16]],
      NextInputs { Pins.idle with bdm := words } [] (debugging words) ∧
        ({ Pins.idle with bdm := words } : Pins).reset = .off ∧ (debugging words).run = .background) ∧
    setBelow (lo 0xFF80#16) 7 = 0 ∧ setBelow (lo 0x007F#16) 7 = 7 :=
  ⟨fun _ _ => ⟨Or.inl rfl, rfl, rfl⟩, by decide, by decide⟩

/-- Each clause: RDMEM and WDMEM of a byte, a word and a long word, RPMEM and WPMEM, at the odd address $FFFFF, where the
second byte of a word is at $00000. -/
theorem witness_BackgroundMemory :
    (∀ words ∈ [[0x1784#16, 0x000F#16, 0xFFFF#16], [0x1784#16, 0x400F#16, 0xFFFF#16], [0x1784#16, 0x800F#16, 0xFFFF#16],
        [0x1785#16, 0x000F#16, 0xFFFF#16, 0x55AA#16], [0x1785#16, 0x400F#16, 0xFFFF#16, 0x55AA#16],
        [0x1785#16, 0xC00F#16, 0xFFFF#16, 0x55AA#16, 0x1234#16], [0x1786#16, 0x000F#16, 0xFFFF#16],
        [0x1787#16, 0x000F#16, 0xFFFF#16, 0x55AA#16]],
      (debugging words).Inv ∧ (debugging words).Quiet ∧
        NextInputs { Pins.idle with bdm := words } [] (debugging words) ∧
        ({ Pins.idle with bdm := words } : Pins).reset = .off ∧ (debugging words).run = .background) ∧
    (0x000F#16).getLsbD 15 = false ∧ (0x000F#16).getLsbD 14 = false ∧ (0x400F#16).getLsbD 15 = false ∧
      (0x400F#16).getLsbD 14 = true ∧ (0x800F#16).getLsbD 15 = true :=
  ⟨fun _ _ => ⟨⟨start_inv.mem_wf, start_inv.pmem_wf, start_inv.pc_even⟩, ⟨rfl, rfl, rfl⟩, Or.inl rfl, rfl, rfl⟩,
    by decide, by decide, by decide, by decide, by decide⟩

theorem witness_FlagEquations : (add8 0xFF#8 0x01#8 false start.ccr).1 = 0x00#8 := by decide

/-- The premises of the statements on a register and a source: a quiet platform and a source the instruction has. -/
theorem witness_ByteAddition : start.Quiet := start_quiet
theorem witness_ByteSubtraction : start.Quiet := start_quiet
theorem witness_ByteLogic : start.Quiet := start_quiet
theorem witness_WordAddition : (Instr.addd (.imm8 0x80#8)).wellFormed = true ∧
    (Instr.adce (.mem (.ext 0xFFFF#16))).wellFormed = true ∧ start.Quiet := ⟨rfl, rfl, start_quiet⟩
theorem witness_WordSubtraction : (Instr.sbcd (.mem (.eoff .z))).wellFormed = true ∧
    (Instr.cps (.mem (.ind8 .y 0xFF#8))).wellFormed = true ∧ start.Quiet := ⟨rfl, rfl, start_quiet⟩
theorem witness_WordLogic : (Instr.ande (.mem (.ind16 .x 0x8000#16))).wellFormed = true ∧
    (Instr.lds (.imm16 0x0000#16)).wellFormed = true ∧ start.Quiet := ⟨rfl, rfl, start_quiet⟩
theorem witness_MemoryByteUnary : (Instr.com (.ind8 .x 0xFF#8)).wellFormed = true ∧
    (Instr.tst (.ext 0x0000#16)).wellFormed = true ∧ start.Inv ∧ start.Quiet := ⟨rfl, rfl, start_inv, start_quiet⟩
theorem witness_MemoryWordUnary : (Instr.negw (.ind16 .y 0x8000#16)).wellFormed = true ∧
    (Instr.tstw (.ext 0xFFFF#16)).wellFormed = true ∧ start.Inv ∧ start.Quiet := ⟨rfl, rfl, start_inv, start_quiet⟩
theorem witness_MemoryBits : (MemOp.ind8 .z 0x00#8).noOffset = true ∧ (MemOp.ext 0xFFFF#16).wordForm = true ∧
    start.Inv ∧ start.Quiet := ⟨rfl, rfl, start_inv, start_quiet⟩
theorem witness_Stores : (Instr.ste (.ext 0xFFFF#16)).wellFormed = true ∧ start.Inv ∧ start.Quiet :=
  ⟨rfl, start_inv, start_quiet⟩
theorem witness_LongLoadStore : start.Inv ∧ start.Quiet := ⟨start_inv, start_quiet⟩
theorem witness_Moves : start.Inv ∧ start.Quiet := ⟨start_inv, start_quiet⟩

/-- Both outcomes of both branches: no masked bit, and bit 7 set or clear in the byte. -/
theorem witness_BitBranches :
    let s := base 0x00E0#16 0x00400#20 [] [(0x01234, [0x80#8])]
    s.Quiet ∧ s.peek .data (ea (.ext 0x1234#16) s) = 0x80#8 ∧
      (∀ k, k < 8 → (0x00#8).getLsbD k = false) ∧ (7 < 8 ∧ (0x80#8).getLsbD 7 = true) ∧
      6 < 8 ∧ (0x40#8).getLsbD 6 = true ∧ (0x80#8).getLsbD 6 = false :=
  ⟨⟨rfl, rfl, rfl⟩, by decide, by decide, by decide, by decide, by decide, by decide⟩

theorem witness_JumpsAndCalls : start.Inv ∧ start.Quiet := ⟨start_inv, start_quiet⟩
theorem witness_Returns : start.Quiet := start_quiet
theorem witness_SoftwareInterrupt : start.Inv ∧ start.Quiet := ⟨start_inv, start_quiet⟩

/-- Both clauses: a call, and a software interrupt, each followed by its return in the very state it left. -/
theorem witness_CallReturn :
    (∃ t, exec (.bsr 0xFE#8) start = .next t ∧ start.Inv ∧ start.Quiet ∧ t.skSp = t.skSp ∧ t.mem = t.mem ∧ t.Quiet) ∧
      ∃ t, exec .swi start = .next t ∧ start.Inv ∧ start.Quiet ∧ t.skSp = t.skSp ∧ t.mem = t.mem ∧ t.Quiet :=
  ⟨⟨_, rfl, start_inv, start_quiet, rfl, rfl, ⟨rfl, rfl, rfl⟩⟩, ⟨_, rfl, start_inv, start_quiet, rfl, rfl, ⟨rfl, rfl, rfl⟩⟩⟩

theorem witness_BytePushPull : start.Inv ∧ start.Quiet := ⟨start_inv, start_quiet⟩

/-- Each register of the mask, and the mask of none. -/
theorem witness_PushMultiple : start.Inv ∧ start.Quiet ∧ (∀ k, k < 7 → (0x7F#8).getLsbD k = true) ∧
    setBelow 0x7F#8 7 = 7 ∧ setBelow 0x80#8 7 = 0 := ⟨start_inv, start_quiet, by decide, by decide, by decide⟩

theorem witness_PullMultiple : start.Quiet ∧ ∀ k, k < 7 → (0x7F#8).getLsbD k = true := ⟨start_quiet, by decide⟩

/-- The four clauses at their boundaries: the quotients $FFFF and $10000 of EDIV, -$8000 and $8000 of EDIVS. -/
theorem witness_ExtendedDivision :
    let divides (e d x : Word) : State := { start with e := e, a := hi d, b := lo d, ix := x }
    (divides 0x0000#16 0xFFFF#16 0x0001#16).ix ≠ 0#16 ∧
      (divides 0x0000#16 0xFFFF#16 0x0001#16).ed.toNat / 1 ≤ 0xFFFF ∧
      ¬(divides 0x0001#16 0x0000#16 0x0001#16).ed.toNat / 1 ≤ 0xFFFF ∧
      outOfRange 16 ((divides 0xFFFF#16 0x8000#16 0x0001#16).ed.toInt.tdiv 1) = false ∧
      outOfRange 16 ((divides 0x0000#16 0x8000#16 0x0001#16).ed.toInt.tdiv 1) = true := by
  decide

theorem witness_DivisionByZero : start.Inv ∧ start.Quiet ∧ start.ix = 0#16 := ⟨start_inv, start_quiet, rfl⟩

/-- The digits 9, 9 and 9, 9: the greatest sum. -/
theorem witness_DecimalAdjust :
    let s := { start with a := 0x99#8, b := 0x99#8 }
    9 < 10 ∧ s.a.toNat = 16 * 9 + 9 ∧ s.b.toNat = 16 * 9 + 9 ∧ ∃ t, exec .aba s = .next t :=
  ⟨by decide, by decide, by decide, ⟨_, rfl⟩⟩

theorem regular_zero : RegularMask 0x00#8 := ⟨0, by decide, by decide⟩
theorem regular_all : RegularMask 0xFF#8 := ⟨8, by decide, by decide⟩
theorem irregular_five : ¬RegularMask 0x05#8 := by
  rintro ⟨k, h, e⟩
  interval_cases k <;> exact absurd e (by decide)

/-- Each clause: the least and the greatest regular mask, and an irregular one. -/
theorem witness_MultiplyAccumulate :
    start.Quiet ∧ RegularMask 0x00#8 ∧ RegularMask 0xFF#8 ∧ ¬RegularMask 0x05#8 :=
  ⟨start_quiet, regular_zero, regular_all, irregular_five⟩

/-- Each clause: the counts $8000, -1 and 0; not suspended, and suspended after the first of two iterations. -/
theorem witness_RepeatMultiplyAccumulate :
    start.Quiet ∧ RegularMask start.mac.xmsk ∧ RegularMask start.mac.ymsk ∧ ¬(0x8000#16).toInt = -1 ∧
      (0xFFFF#16).toInt < 0 ∧ ¬(0x0000#16).toInt < 0 ∧ min (0 + 1) ((0x0001#16).toNat + 1) ≠ (0x0001#16).toNat + 1 :=
  ⟨start_quiet, regular_zero, regular_zero, by decide, by decide, by decide, by decide⟩

theorem witness_MacTransfers : start.Quiet := start_quiet
theorem witness_MacStack : start.Quiet ∧ start.Inv := ⟨start_quiet, start_inv⟩

/-- Both clauses on BGND. -/
theorem witness_StopAndWait :
    ({ start with hid := { start.hid with bdmEnabled := true } } : State).hid.bdmEnabled = true ∧
      start.hid.bdmEnabled = false ∧ start.Inv ∧ start.Quiet := ⟨rfl, rfl, start_inv, start_quiet⟩

end Sys2Proof.Tests
end

section
/-!
PROOFS. The bit layout of the condition code register (10_state.md R37): the image of `Ccr.pack` as a number, and the
two round trips between `Ccr.pack` and `Ccr.unpack`.
-/

namespace Sys2Proof.Machine

/-- Two bit vectors side by side as one number. -/
theorem toNat_append_eq_mul_add {m n : Nat} (x : BitVec m) (y : BitVec n) :
    (x ++ y).toNat = x.toNat * 2 ^ n + y.toNat := by
  rw [BitVec.toNat_append, ← Nat.shiftLeft_add_eq_or_of_lt y.isLt, Nat.shiftLeft_eq]

/-- One bit read out and put back into a vector is the field of width 1 at its place. -/
theorem ofBool_getLsbD_eq_extractLsb' {n : Nat} (w : BitVec n) (i : Nat) :
    BitVec.ofBool (w.getLsbD i) = w.extractLsb' i 1 := by
  ext j hj
  obtain rfl : j = 0 := by omega
  simp

/-- The image as a number: each field at the weight of its lowest bit. -/
theorem Ccr.toNat_pack (c : Ccr) (pk : Nibble) :
    (c.pack pk).toNat =
      c.s.toNat * 2 ^ 15 + c.mv.toNat * 2 ^ 14 + c.h.toNat * 2 ^ 13 + c.ev.toNat * 2 ^ 12 + c.n.toNat * 2 ^ 11 +
        c.z.toNat * 2 ^ 10 + c.v.toNat * 2 ^ 9 + c.c.toNat * 2 ^ 8 + c.ip.toNat * 2 ^ 5 + c.sm.toNat * 2 ^ 4 +
        pk.toNat := by
  simp only [Ccr.pack, toNat_append_eq_mul_add, BitVec.toNat_ofBool]
  omega

/-- IP stands above PK and SM in the image. -/
theorem Ccr.extractLsb'_pack_eq_ip (c : Ccr) (pk : Nibble) : (c.pack pk).extractLsb' 5 3 = c.ip := by
  rw [Ccr.pack, BitVec.extractLsb'_append_eq_of_le (by decide), BitVec.extractLsb'_append_eq_of_le (by decide)]
  exact BitVec.extractLsb'_append_eq_right

/-- Nothing of CCR[15:4] is lost in its image. -/
@[simp] theorem Ccr.unpack_pack (c : Ccr) (pk : Nibble) : Ccr.unpack (c.pack pk) = c := by
  rw [Ccr.unpack, Ccr.extractLsb'_pack_eq_ip]
  simp only [Ccr.pack, BitVec.getLsbD_append]
  simp

/-- The fields cover the word: there are no reserved bits in the CCR. The eleven fields read from `w` lie end to end,
so they join, pair by pair from the top, into `w`. -/
@[simp] theorem Ccr.pack_unpack (w : Word) : (Ccr.unpack w).pack (w.extractLsb' 0 4) = w := by
  simp (disch := rfl) only [Ccr.pack, Ccr.unpack, ofBool_getLsbD_eq_extractLsb',
    BitVec.extractLsb'_append_extractLsb'_eq_extractLsb']
  exact BitVec.extractLsb'_eq_self

/-- Settles O21: the image of the fields as a number, and both round trips. -/
theorem ccrLayout : Obligations.CcrLayout := fun c pk =>
  ⟨c.toNat_pack pk, c.unpack_pack pk, Ccr.pack_unpack⟩

end Sys2Proof.Machine
end

section
/-!
PROOFS. The exchanges (40_data_movement.md R217, R218; 45_indexing_extension.md R503 to R508): each is one exchange of
two registers by their names, after rules for the registers by name, for going on past one word, and for their frames.
-/

namespace Sys2Proof.Machine

/-! ### Registers by name -/

/-- D is A and B, so writing another 16-bit register keeps it; every other pair is of two fields. -/
theorem getR16_setR16_of_ne {r q : R16} (h : r ≠ q) (v : Word) (s : State) : getR16 r (setR16 q v s) = getR16 r s := by
  cases r <;> cases q <;> first | exact absurd rfl h | rfl

@[simp] theorem getR16_advance (r : R16) (len : Addr) (s : State) : getR16 r (s.advance len) = getR16 r s := by
  cases r <;> rfl

/-- Writing an 8-bit accumulator changes the part it is. -/
theorem Frame.setR8 (r : R8) (v : Byte) (s : State) : Frame r.locs [] s (setR8 r v s) :=
  Frame.of_parts (setR8_mem r v s) (setR8_pmem r v s) (setR8_platform r v s) fun l h => by
    cases l
    case a | b => cases r <;> simp_all [R8.locs, Loc.kept, Machine.setR8]
    all_goals simp [Loc.kept]

/-- Writing a 16-bit register changes the parts it is, no extension field among them. -/
theorem Frame.setR16 (r : R16) (v : Word) (s : State) : Frame r.locs [] s (setR16 r v s) :=
  Frame.of_parts (setR16_mem r v s) (setR16_pmem r v s) (setR16_platform r v s) fun l h => by
    cases l
    case a | b | e | ix | iy | iz | sp => cases r <;> simp_all [R16.locs, Loc.kept, Machine.setR16]
    all_goals simp [Loc.kept]

/-! ### Going on -/

/-- Going on at the end of an instruction keeps its frame. -/
theorem Frame.then_advance {may : List Loc} {bytes : List Addr} {s t : State} (h : Frame may bytes s t)
    (hp : t.platform = s.platform) (len : Addr) : Frame may bytes s (t.advance len) := by
  simpa using h.trans hp (Frame.advance len t)

/-- An instruction of one word goes on two bytes further (00_scope.md R7). -/
theorem GoesOn.advance_two {i : Instr} {w : Word} {s t : State} (hw : encode i = [w]) (hpc : t.pc = s.pc) :
    GoesOn i s (t.advance 2) := by
  simp [GoesOn, Instr.length, hw, hpc]

/-! ### Exchanges -/

/-- Two 16-bit registers change places. -/
def exchangeR16 (r q : R16) (s : State) : State := setR16 q (getR16 r s) (setR16 r (getR16 q s) s)

theorem getR16_exchangeR16_left {r q : R16} (h : r ≠ q) (s : State) :
    getR16 r (exchangeR16 r q s) = getR16 q s := by
  rw [exchangeR16, getR16_setR16_of_ne h, getR16_setR16]

theorem getR16_exchangeR16_right (r q : R16) (s : State) : getR16 q (exchangeR16 r q s) = getR16 r s :=
  getR16_setR16 q _ _

@[simp] theorem exchangeR16_pc (r q : R16) (s : State) : (exchangeR16 r q s).pc = s.pc := by simp [exchangeR16]

@[simp] theorem exchangeR16_platform (r q : R16) (s : State) : (exchangeR16 r q s).platform = s.platform := by
  simp [exchangeR16]

theorem Frame.exchangeR16 (r q : R16) (s : State) : Frame (r.locs ++ q.locs) [] s (exchangeR16 r q s) :=
  (Frame.setR16 r _ s).trans (setR16_platform r _ s) (Frame.setR16 q _ _)

theorem exec_xgde (s : State) : exec .xgde s = .next ((exchangeR16 .d .e s).advance 2) := rfl
theorem exec_xgdx (s : State) : exec .xgdx s = .next ((exchangeR16 .d .ix s).advance 2) := rfl
theorem exec_xgdy (s : State) : exec .xgdy s = .next ((exchangeR16 .d .iy s).advance 2) := rfl
theorem exec_xgdz (s : State) : exec .xgdz s = .next ((exchangeR16 .d .iz s).advance 2) := rfl
theorem exec_xgex (s : State) : exec .xgex s = .next ((exchangeR16 .e .ix s).advance 2) := rfl
theorem exec_xgey (s : State) : exec .xgey s = .next ((exchangeR16 .e .iy s).advance 2) := rfl
theorem exec_xgez (s : State) : exec .xgez s = .next ((exchangeR16 .e .iz s).advance 2) := rfl

/-- A and B change places. -/
theorem exec_xgab (s : State) : exec .xgab s = .next ((setR8 .b s.a (setR8 .a s.b s)).advance 2) := rfl

/-- The whole effect of a one-word instruction that exchanges two different 16-bit registers. -/
theorem exec_exchange_spec {i : Instr} {r q : R16} {w : Word} {s : State} (hw : encode i = [w]) (hne : r ≠ q)
    (hx : exec i s = .next ((exchangeR16 r q s).advance 2)) :
    encode i = [w] ∧ ∃ t, exec i s = .next t ∧ GoesOn i s t ∧ getR16 r t = getR16 q s ∧ getR16 q t = getR16 r s ∧
      Frame (r.locs ++ q.locs) [] s t := by
  refine ⟨hw, _, hx, GoesOn.advance_two hw (exchangeR16_pc r q s), ?_, ?_, ?_⟩
  · rw [getR16_advance, getR16_exchangeR16_left hne]
  · rw [getR16_advance, getR16_exchangeR16_right]
  · exact (Frame.exchangeR16 r q s).then_advance (exchangeR16_platform r q s) 2

/-- The whole effect of XGAB (40_data_movement.md R217). -/
theorem exec_xgab_spec (s : State) :
    ∃ t, exec .xgab s = .next t ∧ GoesOn .xgab s t ∧ t.a = s.b ∧ t.b = s.a ∧ Frame [.a, .b] [] s t :=
  have frame : Frame [.a, .b] [] s (setR8 .b s.a (setR8 .a s.b s)) :=
    (Frame.setR8 .a s.b s).trans rfl (Frame.setR8 .b s.a _)
  ⟨_, exec_xgab s, GoesOn.advance_two rfl rfl, rfl, rfl, frame.then_advance rfl 2⟩

/-- Settles O29: XGAB, and the seven rows of the table as exchanges of two 16-bit registers. -/
theorem exchanges : Obligations.Exchanges := fun s => by
  refine ⟨⟨rfl, exec_xgab_spec s⟩, ?_⟩
  simp only [List.forall_mem_cons]
  exact ⟨exec_exchange_spec rfl (by decide) (exec_xgde s), exec_exchange_spec rfl (by decide) (exec_xgdx s),
    exec_exchange_spec rfl (by decide) (exec_xgdy s), exec_exchange_spec rfl (by decide) (exec_xgdz s),
    exec_exchange_spec rfl (by decide) (exec_xgex s), exec_exchange_spec rfl (by decide) (exec_xgey s),
    exec_exchange_spec rfl (by decide) (exec_xgez s), List.forall_mem_nil _⟩

end Sys2Proof.Machine
end

section
/-!
PROOFS. Byte push and pull of the accumulators (46_stacking_ccr.md R544 to R547): the whole effect of one push and of
one pull on a quiet platform, for either accumulator.
-/

namespace Sys2Proof.Machine

@[simp] theorem getR8_advance (r : R8) (len : Addr) (s : State) : getR8 r (s.advance len) = getR8 r s := by
  cases r <;> rfl

theorem exec_psha (s : State) : exec .psha s = .next ((s.pushByte (getR8 .a s)).advance 2) := rfl
theorem exec_pshb (s : State) : exec .pshb s = .next ((s.pushByte (getR8 .b s)).advance 2) := rfl
theorem exec_pula (s : State) : exec .pula s = .next ((setR8 .a s.pullByte.1 s.pullByte.2).advance 2) := rfl
theorem exec_pulb (s : State) : exec .pulb s = .next ((setR8 .b s.pullByte.1 s.pullByte.2).advance 2) := rfl

/-- A pushed byte changes its place in memory and the stack pointer (10_state.md R33). -/
theorem Frame.pushByte {s : State} (hq : s.Quiet) (v : Byte) :
    Frame [.sp, .sk] [s.skSp + 1] s (s.pushByte v) := by
  rw [hq.pushByte]
  exact (Frame.poke (s.skSp + 1) v s).trans rfl (Frame.setSkSp (s.skSp - 1) _)

/-- A pulled byte changes the accumulator it goes to and the stack pointer (10_state.md R33). -/
theorem Frame.pullByte_setR8 {s : State} (hq : s.Quiet) (r : R8) (v : Byte) :
    Frame ([.sp, .sk] ++ r.locs) [] s (Machine.setR8 r v s.pullByte.2) := by
  rw [hq.pullByte]
  exact (Frame.setSkSp (s.skSp + 1) s).trans rfl (Frame.setR8 r v _)

/-- The whole effect of a one-word instruction that pushes a byte. -/
theorem exec_pushByte_spec {i : Instr} {w : Word} {v : Byte} {s : State} (hi : s.Inv) (hq : s.Quiet)
    (hw : encode i = [w]) (hx : exec i s = .next ((s.pushByte v).advance 2)) :
    encode i = [w] ∧ ∃ t, exec i s = .next t ∧ GoesOn i s t ∧ t.peek .data (s.skSp + 1) = v ∧
      t.skSp = s.skSp - 1 ∧ Frame [.sp, .sk] [s.skSp + 1] s t := by
  have frame := (Frame.pushByte hq v).then_advance (Kept.pushByte v s).platform 2
  rw [hq.pushByte] at hx frame
  refine ⟨hw, _, hx, GoesOn.advance_two hw rfl, ?_, ?_, frame⟩
  · rw [State.peek_advance, State.peek_setSkSp, State.peek_poke_self hi.mem_wf]
  · rw [State.skSp_advance, State.skSp_setSkSp]

/-- The whole effect of a one-word instruction that pulls a byte into an accumulator. -/
theorem exec_pullByte_spec {i : Instr} {w : Word} {r : R8} {s : State} (hq : s.Quiet) (hw : encode i = [w])
    (hx : exec i s = .next ((setR8 r s.pullByte.1 s.pullByte.2).advance 2)) :
    encode i = [w] ∧ ∃ t, exec i s = .next t ∧ GoesOn i s t ∧ getR8 r t = s.peek .data (s.skSp + 2) ∧
      t.skSp = s.skSp + 1 ∧ Frame ([.sp, .sk] ++ r.locs) [] s t := by
  have frame := (Frame.pullByte_setR8 hq r s.pullByte.1).then_advance
    ((setR8_platform r _ _).trans (Kept.pullByte s).platform) 2
  rw [hq.pullByte] at hx frame
  refine ⟨hw, _, hx, GoesOn.advance_two hw (setR8_pc r _ _), ?_, ?_, frame⟩
  · rw [getR8_advance, getR8_setR8]
  · rw [State.skSp_advance, State.skSp_setR8, State.skSp_setSkSp]

/-- Settles O45: PSHA and PSHB as pushes, PULA and PULB as pulls, of one byte. -/
theorem bytePushPull : Obligations.BytePushPull := fun s hi hq => by
  simp only [List.forall_mem_cons]
  exact ⟨⟨exec_pushByte_spec hi hq rfl (exec_psha s), exec_pushByte_spec hi hq rfl (exec_pshb s),
      List.forall_mem_nil _⟩,
    exec_pullByte_spec hq rfl (exec_pula s), exec_pullByte_spec hq rfl (exec_pulb s), List.forall_mem_nil _⟩

end Sys2Proof.Machine
end

section
/-!
PROOFS of the family 'other', one section for each part of the development. They are elaborated one at a time: side by side
they ask for more memory than the check allows.
-/

set_option Elab.async false

section
/-!
PROOFS. Decoding what was encoded (30_encoding.md R150 to R174): the decoder on a page-0 opcode whose operand byte is
not known, and then one argument for each form of encoding.
-/

namespace Sys2Proof

/-- Decoding the words `ws` gives `i`, whatever words follow them. -/
def DecodesTo (ws : List Word) (i : Instr) : Prop :=
  ∀ rest : List Word,
    decode ((ws ++ rest).getD 0 0#16) ((ws ++ rest).getD 1 0#16) ((ws ++ rest).getD 2 0#16) = .ok i

theorem DecodesTo.one {w0 : Word} {i : Instr} (h : ∀ w1 w2, decode w0 w1 w2 = .ok i) : DecodesTo [w0] i :=
  fun _ => h _ _

theorem DecodesTo.two {w0 w1 : Word} {i : Instr} (h : ∀ w2, decode w0 w1 w2 = .ok i) : DecodesTo [w0, w1] i :=
  fun _ => h _

theorem DecodesTo.three {w0 w1 w2 : Word} {i : Instr} (h : decode w0 w1 w2 = .ok i) : DecodesTo [w0, w1, w2] i :=
  fun _ => h

/-- The opcode is no prebyte: it stands on page 0 of the opcode map (30_encoding.md R151). -/
def isPage0 (op : Byte) : Bool := !(op == 0x17#8 || op == 0x27#8 || op == 0x37#8)

/-- An opcode of page 0 with any operand byte is looked up on page 0 (30_encoding.md R156). -/
theorem decode_page0 {op : Byte} (h : isPage0 op = true) (b : Byte) (w1 w2 : Word) :
    decode (op ++ b) w1 w2 = match page0 op b w1 w2 with
      | some i => .ok i
      | none => .error (.undefinedOpcode 0 op) := by
  simp only [isPage0, Bool.not_eq_true', Bool.or_eq_false_iff, beq_eq_false_iff_ne] at h
  obtain ⟨⟨h17, h27⟩, h37⟩ := h
  have toNat_ne {c : Byte} (hc : op ≠ c) : op.toNat ≠ c.toNat := fun e => hc (BitVec.eq_of_toNat_eq e)
  unfold decode
  rw [Machine.hi_append, Machine.lo_append]
  split
  · exact absurd ‹_› (toNat_ne h17)
  · exact absurd ‹_› (toNat_ne h27)
  · exact absurd ‹_› (toNat_ne h37)
  · rfl

theorem decode_eq_of_page0 {op b : Byte} {w1 w2 : Word} {i : Instr} (hop : isPage0 op = true)
    (h : page0 op b w1 w2 = some i) : decode (op ++ b) w1 w2 = .ok i := by
  rw [decode_page0 hop, h]

/-- One word of page 0. -/
theorem DecodesTo.page0_one {op b : Byte} {i : Instr} (hop : isPage0 op = true)
    (h : ∀ w1 w2, page0 op b w1 w2 = some i) : DecodesTo [op ++ b] i :=
  .one fun w1 w2 => decode_eq_of_page0 hop (h w1 w2)

/-- Two words, the first of page 0. -/
theorem DecodesTo.page0_two {op b : Byte} {w1 : Word} {i : Instr} (hop : isPage0 op = true)
    (h : ∀ w2, page0 op b w1 w2 = some i) : DecodesTo [op ++ b, w1] i :=
  .two fun w2 => decode_eq_of_page0 hop (h w2)

/-- Three words, the first of page 0. -/
theorem DecodesTo.page0_three {op b : Byte} {w1 w2 : Word} {i : Instr} (hop : isPage0 op = true)
    (h : page0 op b w1 w2 = some i) : DecodesTo [op ++ b, w1, w2] i :=
  .three (decode_eq_of_page0 hop h)

/-- The bank nibble and the low word of a 20-bit operand are the operand (30_encoding.md R164). -/
theorem nib_bank_append_offset (v : Addr) : nib (0#4 ++ bank v) ++ offset v = v := by
  rw [Machine.nib_append, Machine.bank_append_offset]

/-- JMP and JSR: the bank nibble in the operand byte, then the low word (30_encoding.md R154). -/
theorem DecodesTo.jump {op : Byte} {i : Instr} {v : Addr} (hop : isPage0 op = true)
    (h : ∀ b w1 w2, nib b ++ w1 = v → page0 op b w1 w2 = some i) : DecodesTo [op ++ (0#4 ++ bank v), offset v] i :=
  .page0_two hop fun w2 => h _ _ w2 (nib_bank_append_offset v)

/-- BCLR and BSET with an 8-bit offset: mask and offset in the second word (30_encoding.md R154). -/
theorem DecodesTo.maskAndOffset {w0 : Word} {i : Instr} {x y : Byte}
    (h : ∀ w1 w2, hi w1 = x → lo w1 = y → decode w0 w1 w2 = .ok i) : DecodesTo [w0, x ++ y] i :=
  .two fun w2 => h _ w2 (Machine.hi_append x y) (Machine.lo_append x y)

/-- BRCLR and BRSET with an 8-bit offset: offset and branch in the second word (30_encoding.md R154). -/
theorem DecodesTo.offsetAndBranch {op b x y : Byte} {i : Instr} (hop : isPage0 op = true)
    (h : ∀ w1 w2, hi w1 = x → lo w1 = y → page0 op b w1 w2 = some i) : DecodesTo [op ++ b, x ++ y] i :=
  .maskAndOffset fun w1 w2 hx hy => decode_eq_of_page0 hop (h w1 w2 hx hy)

/-- Every well-formed instruction is decoded from its words. The cases are grouped by the form of the encoding; within a
group the first word has one opcode for each operand form and index register. -/
theorem decodesTo_encode (i : Instr) (h : i.wellFormed = true) : DecodesTo (encode i) i := by
  cases i
  case com m | dec m | neg m | inc m | asl m | clr m | tst m | rol m | asr m | ror m | lsr m | stx m | sty m | stz m
      | sts m =>
    cases m with
    | ind8 r ff => cases r <;> exact .page0_one rfl fun _ _ => rfl
    | ind16 r gggg => cases r <;> exact .two fun _ => rfl
    | ext hhll => exact .two fun _ => rfl
    | eoff r => cases h
  case comw m | decw m | negw m | incw m | aslw m | clrw m | tstw m | rolw m | asrw m | rorw m | lsrw m | ste m =>
    cases m with
    | ind8 r ff | eoff r => cases h
    | ind16 r gggg => cases r <;> exact .two fun _ => rfl
    | ext hhll => exact .two fun _ => rfl
  case staa m | stab m | std m =>
    cases m with
    | ind8 r ff => cases r <;> exact .page0_one rfl fun _ _ => rfl
    | ind16 r gggg => cases r <;> exact .two fun _ => rfl
    | ext hhll => exact .two fun _ => rfl
    | eoff r => cases r <;> exact .one fun _ _ => rfl
  case bclr mm m | bset mm m =>
    cases m with
    | ind8 r ff => cases r <;> exact .maskAndOffset (by rintro _ _ rfl rfl; rfl)
    | ind16 r gggg => cases r <;> exact .page0_two rfl fun _ => rfl
    | ext hhll => exact .page0_two rfl fun _ => rfl
    | eoff r => cases h
  case bclrw mmmm m | bsetw mmmm m =>
    cases m with
    | ind8 r ff | eoff r => cases h
    | ind16 r gggg => cases r <;> exact .three rfl
    | ext hhll => exact .three rfl
  case brclr mm op | brset mm op =>
    cases op with
    | ind8 r ff rr => cases r <;> exact .offsetAndBranch rfl (by rintro _ _ rfl rfl; rfl)
    | ind16 r gggg rrrr => cases r <;> exact .page0_three rfl rfl
    | ext hhll rrrr => exact .page0_three rfl rfl
  case movb op | movw op =>
    cases op with
    | ixpToExt ff hhll | extToIxp ff hhll => exact .page0_two rfl fun _ => rfl
    | extToExt src dst => exact .three rfl
  case jmp op | jsr op =>
    cases op with
    | ext20 target => exact .jump rfl (by rintro _ _ _ rfl; rfl)
    | ind20 r off => cases r <;> exact .jump rfl (by rintro _ _ _ rfl; rfl)
  case aix v | aiy v | aiz v | ais v =>
    cases v with
    | imm8 ii => exact .page0_one rfl fun _ _ => rfl
    | imm16 jjkk => exact .two fun _ => rfl
  case suba src | adda src | sbca src | adca src | eora src | ldaa src | anda src | oraa src | cmpa src | bita src
      | subb src | addb src | sbcb src | adcb src | eorb src | ldab src | andb src | orab src | cmpb src | bitb src =>
    rcases src with ii | m
    · exact .page0_one rfl fun _ _ => rfl
    · cases m with
      | ind8 r ff => cases r <;> exact .page0_one rfl fun _ _ => rfl
      | ind16 r gggg => cases r <;> exact .two fun _ => rfl
      | ext hhll => exact .two fun _ => rfl
      | eoff r => cases r <;> exact .one fun _ _ => rfl
  case addd src =>
    rcases src with ii | jjkk | m
    · exact .page0_one rfl fun _ _ => rfl
    · exact .two fun _ => rfl
    · cases m with
      | ind8 r ff => cases r <;> exact .page0_one rfl fun _ _ => rfl
      | ind16 r gggg => cases r <;> exact .two fun _ => rfl
      | ext hhll => exact .two fun _ => rfl
      | eoff r => cases r <;> exact .one fun _ _ => rfl
  case subd src | sbcd src | adcd src | eord src | ldd src | andd src | ord src | cpd src =>
    rcases src with ii | jjkk | m
    · cases h
    · exact .two fun _ => rfl
    · cases m with
      | ind8 r ff => cases r <;> exact .page0_one rfl fun _ _ => rfl
      | ind16 r gggg => cases r <;> exact .two fun _ => rfl
      | ext hhll => exact .two fun _ => rfl
      | eoff r => cases r <;> exact .one fun _ _ => rfl
  case adde src =>
    rcases src with ii | jjkk | m
    · exact .page0_one rfl fun _ _ => rfl
    · exact .two fun _ => rfl
    · cases m with
      | ind8 r ff | eoff r => cases h
      | ind16 r gggg => cases r <;> exact .two fun _ => rfl
      | ext hhll => exact .two fun _ => rfl
  case sube src | sbce src | adce src | eore src | lde src | ande src | ore src | cpe src =>
    rcases src with ii | jjkk | m
    · cases h
    · exact .two fun _ => rfl
    · cases m with
      | ind8 r ff | eoff r => cases h
      | ind16 r gggg => cases r <;> exact .two fun _ => rfl
      | ext hhll => exact .two fun _ => rfl
  case cpx src | cpy src | cpz src | cps src | ldx src | ldy src | ldz src | lds src =>
    rcases src with ii | jjkk | m
    · cases h
    · exact .two fun _ => rfl
    · cases m with
      | ind8 r ff => cases r <;> exact .page0_one rfl fun _ _ => rfl
      | ind16 r gggg => cases r <;> exact .two fun _ => rfl
      | ext hhll => exact .two fun _ => rfl
      | eoff r => cases h
  case lded w | sted w | lbsr w | andp w | orp w | lbra w | lbrn w | lbhi w | lbls w | lbcc w | lbcs w | lbne w | lbeq w
      | lbvc w | lbvs w | lbpl w | lbmi w | lbge w | lblt w | lbgt w | lble w | lbmv w | lbev w =>
    exact .two fun _ => rfl
  case pshm b | pulm b | bsr b | mac b | bra b | brn b | bhi b | bls b | bcc b | bcs b | bne b | beq b | bvc b | bvs b
      | bpl b | bmi b | bge b | blt b | bgt b | ble b | rmac b =>
    exact .page0_one rfl fun _ _ => rfl
  all_goals exact .one fun _ _ => rfl

/-- Settles O1: the words of a well-formed instruction decode to it. -/
theorem decodeEncode : Obligations.DecodeEncode := fun i rest h => decodesTo_encode i h rest

end Sys2Proof
end

section
/-!
PROOFS. Encoding what was decoded (30_encoding.md R156 to R158): each cell of the four pages of the opcode map holds a
well-formed instruction whose words are those it was read from.
-/

namespace Sys2Proof

/-- `i` is well formed and its words are the first of `w0`, `w1`, `w2`; the decoder ignores bits [7:4] of the first word
of JMP and JSR (30_encoding.md R158; log entry 17). -/
inductive Reencodes (w0 w1 w2 : Word) (i : Instr) : Prop where
  | one (hwf : i.wellFormed = true) (h : encode i = [w0])
  | two (hwf : i.wellFormed = true) (h : encode i = [w0, w1])
  | three (hwf : i.wellFormed = true) (h : encode i = [w0, w1, w2])
  | jump (hwf : i.wellFormed = true) (op : JmpOp) (hi : i = .jmp op ∨ i = .jsr op)
    (h : encode i = [w0 &&& 0xFF0F#16, w1])

/-- The word of JMP or JSR whose ignored bits are zero. -/
theorem append_nib_eq_and (op b : Byte) : op ++ (0#4 ++ nib b) = (op ++ b : Word) &&& 0xFF0F#16 := by
  ext i hi
  simp only [nib, BitVec.getElem_append, BitVec.getElem_and, BitVec.getElem_extractLsb']
  interval_cases i <;> simp [BitVec.getLsbD_eq_getElem]

/-- JMP and JSR on page 0. -/
theorem encode_jump_words (op b : Byte) (w1 : Word) :
    [op ++ (0#4 ++ bank (nib b ++ w1)), offset (nib b ++ w1)] = [(op ++ b : Word) &&& 0xFF0F#16, w1] := by
  have hbank : bank (nib b ++ w1) = nib b := BitVec.extractLsb'_append_eq_left
  have hoffset : offset (nib b ++ w1) = w1 := BitVec.extractLsb'_append_eq_right
  rw [← append_nib_eq_and, hbank, hoffset]

/-- The mask and the offset of BCLR and BSET are the second word. -/
theorem encode_halves (w0 w1 : Word) : [w0, hi w1 ++ lo w1] = [w0, w1] := by rw [Machine.hi_append_lo]

/-- An opcode is one of 256. -/
theorem opcode_cases (op : Byte) : ∃ n < 256, op = BitVec.ofNat 8 n := ⟨op.toNat, op.isLt, by simp⟩

theorem page1_reencodes {op : Byte} {w1 w2 : Word} {i : Instr} (h : page1 op w1 w2 = some i) :
    Reencodes (0x17#8 ++ op) w1 w2 i := by
  obtain ⟨n, hn, rfl⟩ := opcode_cases op
  interval_cases n <;> cases h <;>
    first | exact .one rfl rfl | exact .two rfl rfl | exact .two rfl (encode_halves _ _)

theorem page2_reencodes {op : Byte} {w1 w2 : Word} {i : Instr} (h : page2 op w1 w2 = some i) :
    Reencodes (0x27#8 ++ op) w1 w2 i := by
  obtain ⟨n, hn, rfl⟩ := opcode_cases op
  interval_cases n <;> cases h <;>
    first | exact .one rfl rfl | exact .two rfl rfl | exact .three rfl rfl

theorem page3_reencodes {op : Byte} {w1 w2 : Word} {i : Instr} (h : page3 op w1 w2 = some i) :
    Reencodes (0x37#8 ++ op) w1 w2 i := by
  obtain ⟨n, hn, rfl⟩ := opcode_cases op
  interval_cases n <;> cases h <;>
    first | exact .one rfl rfl | exact .two rfl rfl | exact .three rfl rfl

theorem page0_reencodes {op b : Byte} {w1 w2 : Word} {i : Instr} (h : page0 op b w1 w2 = some i) :
    Reencodes (op ++ b) w1 w2 i := by
  obtain ⟨n, hn, rfl⟩ := opcode_cases op
  interval_cases n <;> cases h <;>
    first
    | exact .one rfl rfl | exact .two rfl rfl | exact .three rfl rfl | exact .two rfl (encode_halves _ _)
    | exact .jump rfl _ (.inl rfl) (encode_jump_words _ _ _) | exact .jump rfl _ (.inr rfl) (encode_jump_words _ _ _)

/-- The decoder reads each instruction from the page its first byte selects (30_encoding.md R156). -/
theorem decode_reencodes {w0 w1 w2 : Word} {i : Instr} (h : decode w0 w1 w2 = .ok i) : Reencodes w0 w1 w2 i := by
  have hw : hi w0 ++ lo w0 = w0 := Machine.hi_append_lo w0
  have prebyte (c : Byte) (hc : (hi w0).toNat = c.toNat) : c ++ lo w0 = w0 := by
    rw [← BitVec.eq_of_toNat_eq hc, hw]
  unfold decode at h
  split at h <;> rename_i hpage <;> split at h <;> cases h <;> rename_i hcell
  · exact prebyte 0x17 hpage ▸ page1_reencodes hcell
  · exact prebyte 0x27 hpage ▸ page2_reencodes hcell
  · exact prebyte 0x37 hpage ▸ page3_reencodes hcell
  · exact hw ▸ page0_reencodes hcell

/-- Settles O2, from the shape of the words that the cell of the opcode map gives. -/
theorem encodeDecode : Obligations.EncodeDecode := fun w0 w1 w2 i h => by
  cases decode_reencodes h with
  | one hwf h | two hwf h | three hwf h => exact ⟨hwf, .inl (by rw [h]; rfl), by simp [h], by simp [h]⟩
  | jump hwf op hi h => exact ⟨hwf, .inr ⟨op, hi, by rw [h]; rfl⟩, by simp [h], by simp [h]⟩

end Sys2Proof
end

section
/-!
PROOFS. What every step keeps: the canonical form of both memories, bit 0 of the program counter and the platform, by
one lemma for each part of a step (`Kept` for an operation, `Out.All (Kept s)` for an outcome).
-/

namespace Sys2Proof.Machine

/-! ### Instructions that have no shape of their own -/

/-- What `Kept` speaks of, as one value. -/
def State.core (s : State) : Memory × Memory × Addr × Platform := (s.mem, s.pmem, s.pc, s.platform)

/-- An update that leaves both memories, the program counter and the platform. -/
theorem Kept.update {s t : State} (h : t.core = s.core) : Kept s t := by
  simp only [State.core, Prod.mk.injEq] at h
  obtain ⟨hm, hp, hc, hq⟩ := h
  exact Kept.congr hm hp hc hq

theorem Kept.addImmPointer (r : Idx) (i : Imm) (s : State) : Out.All (Kept s) (addImmPointer r i s) :=
  .next ((Kept.setPointer r _ s).finish _ (immLen_even i))

theorem Kept.then_advance {s t : State} (h : Kept s t) {len : Addr} (e : len.getLsbD 0 = false) :
    Kept s (t.advance len) := h.trans (Kept.advance e t)

/-- An update of the registers alone and the step past one word. -/
theorem Kept.registers {s t : State} (h : t.core = s.core) : Kept s (t.advance 2) :=
  (Kept.update h).then_advance rfl

theorem Kept.movPost (op : MovOp) (base : Addr) (s : State) : Kept s (movPost op base s) := by
  cases op with
  | ixpToExt | extToIxp => exact Kept.setPointer .x _ s
  | extToExt => exact Kept.refl s

theorem Kept.movb (op : MovOp) (s : State) : Out.All (Kept s) (execMovb op s) :=
  .next (((((Kept.readByte _ s).trans (Kept.writeByte _ _ _)).trans (Kept.setFlags _ _)).trans
    (Kept.movPost op _ _)).then_advance (movLen_even op))

theorem Kept.movw (op : MovOp) (s : State) : Out.All (Kept s) (execMovw op s) :=
  .next (((((Kept.readWord _ s).trans (Kept.writeWord _ _ _)).trans (Kept.setFlags _ _)).trans
    (Kept.movPost op _ _)).then_advance (movLen_even op))

theorem Kept.lded (hhll : Word) (s : State) : Out.All (Kept s) (execLded hhll s) :=
  .next ((((Kept.readWord _ s).trans (Kept.readWord _ _)).trans (Kept.update (by rfl))).then_advance rfl)

theorem Kept.sted (hhll : Word) (s : State) : Out.All (Kept s) (execSted hhll s) :=
  .next (((Kept.writeWord _ _ s).trans (Kept.writeWord _ _ _)).then_advance rfl)

theorem Kept.brclr (mm : Byte) (op : BrOp) (s : State) : Out.All (Kept s) (execBrclr mm op s) :=
  .next ((Kept.readByte _ s).trans (Kept.branchIf _ _ (brLen_even op) _))

theorem Kept.brset (mm : Byte) (op : BrOp) (s : State) : Out.All (Kept s) (execBrset mm op s) :=
  .next ((Kept.readByte _ s).trans (Kept.branchIf _ _ (brLen_even op) _))

/-- A call: the frame, then the target. -/
theorem Kept.call (ret target : Addr) (s : State) : Kept s ((s.pushFrame ret).jumpTo target) :=
  (Kept.pushFrame ret s).trans (Kept.jumpTo target _)

theorem Kept.pulmLoad (bit : Nat) (v : Word) (s : State) : Kept s (pulmLoad bit v s) := by
  unfold Machine.pulmLoad
  split <;> exact Kept.update (by rfl)

theorem Kept.pshmBit (mask : Byte) (bit : Nat) (s : State) : Kept s (pshmBit mask bit s) := by
  unfold Machine.pshmBit
  split
  · exact Kept.pushWord _ s
  · exact Kept.refl s

theorem Kept.pulmBit (mask : Byte) (bit : Nat) (s : State) : Kept s (pulmBit mask bit s) := by
  unfold Machine.pulmBit
  split
  · exact (Kept.pullWord s).trans (Kept.pulmLoad bit _ _)
  · exact Kept.refl s

/-- A sequence of operations each of which keeps what is to be kept. -/
theorem Kept.foldl {α : Type} {f : State → α → State} (h : ∀ a s, Kept s (f s a)) (as : List α) (s : State) :
    Kept s (as.foldl f s) := by
  induction as generalizing s with
  | nil => exact Kept.refl s
  | cons a rest ih => exact (h a s).trans (ih (f s a))

theorem Kept.pshm (mask : Byte) (s : State) : Out.All (Kept s) (execPshm mask s) :=
  .next ((Kept.foldl (Kept.pshmBit mask) maskBits s).then_advance rfl)

theorem Kept.pulm (mask : Byte) (s : State) : Out.All (Kept s) (execPulm mask s) :=
  .next (((Kept.foldl (Kept.pulmBit mask) maskBits s).trans (Kept.readWord _ _)).then_advance rfl)

/-- ANDP, ORP, TAP and TDP (46_stacking_ccr.md R552 to R555). -/
theorem Kept.ccrTransfer (c : Ccr) {len : Addr} (e : len.getLsbD 0 = false) (s : State) :
    Kept s (((s.writeCcr c).inhibit).advance len) :=
  ((Kept.writeCcr c s).trans (Kept.inhibit _)).then_advance e

/-! ### The MAC unit -/

theorem Kept.macUpdate (r : Idx) (msk : Byte) (o : Nibble) (s : State) : Kept s (macUpdate r msk o s) := by
  unfold Machine.macUpdate
  split
  · exact Kept.setIndex r _ s
  · exact (Kept.bump s).trans (Kept.setIndex r _ _)

theorem Kept.amAdd (x : Int) (s : State) : Kept s (amAdd x s) := Kept.update (by rfl)

theorem Kept.macStep (xoyo : Byte) (s : State) : Kept s (macStep xoyo s) :=
  ((Kept.amAdd _ s).trans (Kept.macUpdate .x _ _ _)).trans (Kept.macUpdate .y _ _ _)

theorem Kept.macReload (s : State) : Kept s (macReload s) :=
  ((Kept.readWord _ s).trans (Kept.readWord _ _)).trans (Kept.update (by rfl))

theorem Kept.mac (xoyo : Byte) (s : State) : Out.All (Kept s) (execMac xoyo s) :=
  .next (((Kept.macStep xoyo s).trans ((Kept.update (by rfl)).trans (Kept.macReload _))).then_advance rfl)

theorem Kept.ldhi (s : State) : Out.All (Kept s) (execLdhi s) :=
  .next (((Kept.readWord _ s).trans (Kept.readWord _ _)).trans (Kept.registers (by rfl)))

theorem Kept.rmacIterate (xoyo : Byte) (s : State) : Kept s (rmacIterate xoyo s) :=
  ((Kept.macStep xoyo s).trans (Kept.macReload _)).trans (Kept.update (by rfl))

theorem Kept.rmacFinish (s : State) : Kept s (rmacFinish s) := Kept.registers (by rfl)

theorem Kept.rmacLoop (fuel : Nat) (suspend : Option Nat) (xoyo : Byte) (s : State) :
    Kept s (rmacLoop fuel suspend xoyo s) := by
  induction fuel generalizing suspend s with
  | zero => exact Kept.rmacFinish s
  | succ n ih =>
    have iterate := Kept.rmacIterate xoyo s
    unfold Machine.rmacLoop
    dsimp only
    split
    · exact iterate.trans (Kept.rmacFinish _)
    · split
      · exact iterate.trans (ih none _)
      · exact iterate.trans (Kept.update (by rfl))
      · exact iterate.trans (ih _ _)

theorem Kept.pshmac (s : State) : Out.All (Kept s) (execPshmac s) :=
  .next (((((((Kept.bump s).trans (Kept.pushWord _ _)).trans (Kept.pushWord _ _)).trans (Kept.pushWord _ _)).trans
    (Kept.pushWord _ _)).trans ((Kept.pushWord _ _).trans (Kept.pushWord _ _))).then_advance rfl)

theorem Kept.pulmac (s : State) : Out.All (Kept s) (execPulmac s) :=
  .next ((((((Kept.pullWord s).trans (Kept.pullWord _)).trans (Kept.pullWord _)).trans (Kept.pullWord _)).trans
    ((Kept.pullWord _).trans (Kept.pullWord _))).trans (Kept.registers (by rfl)))

/-! ### Division -/

theorem Kept.divideByZero (s : State) : Out.All (Kept s) (divideByZero s) :=
  .next ((Kept.update rfl : Kept s (s.looseDivFlags none)).trans (Kept.takeException _ _ _))

theorem Kept.divideOverflow (s : State) : Out.All (Kept s) (divideOverflow s) :=
  .next (Kept.registers (by rfl))

theorem Kept.divideResult (q r : Word) (c : Bool) (s : State) : Out.All (Kept s) (divideResult q r c s) :=
  .next (Kept.registers (by rfl))

theorem Kept.ediv (s : State) : Out.All (Kept s) (execEdiv s) := by
  unfold execEdiv
  dsimp only
  split
  · exact Kept.divideByZero s
  · split
    · exact Kept.divideOverflow s
    · exact Kept.divideResult _ _ _ s

theorem Kept.edivs (s : State) : Out.All (Kept s) (execEdivs s) := by
  unfold execEdivs
  dsimp only
  split
  · exact Kept.divideByZero s
  · split
    · exact Kept.divideOverflow s
    · exact Kept.divideResult _ _ _ s

theorem Kept.idiv (s : State) : Out.All (Kept s) (execIdiv s) := by
  unfold execIdiv
  dsimp only
  split <;> exact .next (Kept.registers (by rfl))

theorem Kept.fdiv (s : State) : Out.All (Kept s) (execFdiv s) := by
  unfold execFdiv
  dsimp only
  split <;> exact .next (Kept.registers (by rfl))

/-! ### Stop and background -/

theorem Kept.lpstop (s : State) : Out.All (Kept s) (execLpstop s) := by
  unfold execLpstop
  split
  · exact .next (Kept.advance rfl s)
  · exact .next (Kept.registers (by rfl))

theorem Kept.bgnd (s : State) : Out.All (Kept s) (execBgnd s) := by
  unfold execBgnd
  split
  · exact .next (Kept.registers (by rfl))
  · exact .next (Kept.takeException _ _ s)

/-! ### Every instruction -/

/-- No instruction breaks the invariant or changes the platform. The cases are grouped by the shape of the meaning. -/
theorem Kept.exec (i : Instr) (s : State) : Out.All (Kept s) (exec i s) := by
  cases i
  case com m | dec m | neg m | inc m | asl m | rol m | asr m | ror m | lsr m => exact Kept.rmw8 _ m (memLen_even m) s
  case comw m | decw m | negw m | incw m | aslw m | rolw m | asrw m | rorw m | lsrw m =>
    exact Kept.rmw16 _ m (memLen_even m) s
  case bclr mm m | bset mm m => exact Kept.rmw8 _ m rfl s
  case bclrw mmmm m | bsetw mmmm m => exact Kept.rmw16 _ m rfl s
  case clr m => exact Kept.clear8 m s
  case clrw m => exact Kept.clear16 m s
  case tst m => exact Kept.test8 m s
  case tstw m => exact Kept.test16 m s
  case staa m | stab m => exact Kept.store8 _ m s
  case std m | ste m | stx m | sty m | stz m | sts m => exact Kept.store16 _ m s
  case suba src | adda src | sbca src | adca src | eora src | ldaa src | anda src | oraa src | subb src | addb src
      | sbcb src | adcb src | eorb src | ldab src | andb src | orab src => exact Kept.bin8 _ _ src s
  case cmpa src | bita src | cmpb src | bitb src => exact Kept.cmp8 _ _ src s
  case subd src | addd src | sbcd src | adcd src | eord src | ldd src | andd src | ord src | sube src | adde src
      | sbce src | adce src | eore src | lde src | ande src | ore src | ldx src | ldy src | ldz src | lds src =>
    exact Kept.bin16 _ _ src s
  case cpd src | cpe src | cpx src | cpy src | cpz src | cps src => exact Kept.cmp16 _ _ src s
  case bra rr | brn rr | bhi rr | bls rr | bcc rr | bcs rr | bne rr | beq rr | bvc rr | bvs rr | bpl rr | bmi rr
      | bge rr | blt rr | bgt rr | ble rr => exact Kept.shortBranch _ rr s
  case lbra w | lbrn w | lbhi w | lbls w | lbcc w | lbcs w | lbne w | lbeq w | lbvc w | lbvs w | lbpl w | lbmi w
      | lbge w | lblt w | lbgt w | lble w | lbmv w | lbev w => exact Kept.longBranch _ w s
  case brclr mm op => exact Kept.brclr mm op s
  case brset mm op => exact Kept.brset mm op s
  case jmp op => exact .next (Kept.jumpTo _ s)
  case jsr op => exact .next (Kept.call _ _ s)
  case bsr rr => exact .next (Kept.call _ _ s)
  case lbsr rrrr => exact .next (Kept.call _ _ s)
  case rts => exact .next (Kept.returnFromSubroutine s)
  case rti => exact .next (Kept.returnFromException s)
  case swi => exact .next (Kept.takeException _ _ s)
  case movb op => exact Kept.movb op s
  case movw op => exact Kept.movw op s
  case lded hhll => exact Kept.lded hhll s
  case sted hhll => exact Kept.sted hhll s
  case pshm mask => exact Kept.pshm mask s
  case pulm mask => exact Kept.pulm mask s
  case psha | pshb => exact .next ((Kept.pushByte _ s).then_advance rfl)
  case pula | pulb => exact .next ((Kept.pullByte s).trans (Kept.registers (by rfl)))
  case aix v | aiy v | aiz v => exact Kept.addImmPointer _ v s
  case ais v => exact .next ((Kept.setSkSp _ s).then_advance (immLen_even v))
  case andp w | orp w => exact .next (Kept.ccrTransfer _ rfl s)
  case tap | tdp => exact .next (Kept.ccrTransfer _ rfl s)
  case mac xoyo => exact Kept.mac xoyo s
  case rmac xoyo => exact .next (Kept.rmacLoop _ _ xoyo s)
  case ldhi => exact Kept.ldhi s
  case pshmac => exact Kept.pshmac s
  case pulmac => exact Kept.pulmac s
  case ediv => exact Kept.ediv s
  case edivs => exact Kept.edivs s
  case idiv => exact Kept.idiv s
  case fdiv => exact Kept.fdiv s
  case lpstop => exact Kept.lpstop s
  case bgnd => exact Kept.bgnd s
  all_goals exact .next (Kept.registers (by rfl))

/-! ### Background mode -/

theorem Kept.bdmReply (words : List (BitVec 17)) (s : State) : Kept s (bdmReply words s) := by
  unfold Machine.bdmReply
  split <;> exact Kept.update (by rfl)

theorem Kept.then_bdmReply {s t : State} (h : Kept s t) (words : List (BitVec 17)) :
    Kept s (Machine.bdmReply words t) := h.trans (Kept.bdmReply words t)

theorem Kept.wregmLoad (bits : List Nat) (mask : Word) (data : List Word) (s t : State)
    (h : wregmLoad bits mask data s = some t) : Kept s t := by
  induction bits generalizing data s with
  | nil =>
    cases h
    exact Kept.refl t
  | cons bit rest ih =>
    unfold Machine.wregmLoad at h
    split at h
    · split at h
      · cases h
      · exact (Kept.pulmLoad bit _ s).trans (ih _ _ h)
    · exact ih _ _ h

theorem Kept.bdmWregm (mask : Word) (data : List Word) (s : State) : Kept s (bdmWregm mask data s) := by
  unfold Machine.bdmWregm
  split
  · exact (Kept.wregmLoad _ _ _ _ _ ‹_›).then_bdmReply _
  · exact Kept.bdmReply _ s

theorem Kept.bdmWpcsp (pk pc sk sp : Word) (s : State) : Kept s (bdmWpcsp pk pc sk sp s) :=
  ((Kept.jumpTo _ s).trans (Kept.update (by rfl))).then_bdmReply _

theorem Kept.bdmRdmem (w0 w1 : Word) (s : State) : Kept s (bdmRdmem w0 w1 s) := by
  unfold Machine.bdmRdmem
  dsimp only
  split
  · exact (Kept.busReadLong _ _ s).then_bdmReply _
  · split
    · exact (Kept.busReadWord _ _ s).then_bdmReply _
    · exact (Kept.busReadByte _ _ s).then_bdmReply _

theorem Kept.bdmWdmem (w0 w1 v : Word) (s : State) : Kept s (bdmWdmem w0 w1 v s) := by
  unfold Machine.bdmWdmem
  dsimp only
  split
  · exact (Kept.busWriteWord _ _ _ s).then_bdmReply _
  · exact (Kept.busWriteByte _ _ _ s).then_bdmReply _

theorem Kept.bdmRpmem (w0 w1 : Word) (s : State) : Kept s (bdmRpmem w0 w1 s) :=
  Kept.then_bdmReply (Kept.busReadWord .program (even20 (bdmAddress w0 w1)) s)
    [bdmData (s.busReadWord .program (even20 (bdmAddress w0 w1))).1]

theorem Kept.bdmCommand (op : Word) (args : List Word) (s : State) : Kept s (bdmCommand op args s) := by
  unfold Machine.bdmCommand
  split
  · exact (Kept.bump s).then_bdmReply _
  · exact Kept.bdmWregm _ _ s
  · exact ((Kept.bump s).trans (Kept.bump _)).then_bdmReply _
  · exact Kept.bdmWpcsp _ _ _ _ s
  · exact Kept.bdmRdmem _ _ s
  · split
    · split
      · exact Kept.bdmReply _ s
      · exact (Kept.busWriteLong _ _ _ _ s).then_bdmReply _
    · exact Kept.bdmWdmem _ _ _ s
  · exact Kept.bdmRpmem _ _ s
  · exact (Kept.busWriteWord .program _ _ s).then_bdmReply _
  · exact Kept.update (by rfl)
  · exact Kept.bdmReply _ s
  · exact (Kept.bump s).then_bdmReply _
  · exact (Kept.update (by rfl)).then_bdmReply _
  · split <;> exact Kept.bdmReply _ s

theorem Kept.bdmStep (s : State) : Kept s (bdmStep s) := by
  unfold Machine.bdmStep
  split
  · exact Kept.refl s
  · exact Kept.bdmCommand _ _ s

/-! ### The step -/

theorem Kept.takeInputs (s : State) : Kept s s.takeInputs := by
  unfold State.takeInputs
  split <;> exact Kept.update (by rfl)

theorem Kept.sampleIrq7 (s : State) : Kept s s.sampleIrq7 := Kept.update (by rfl)

theorem Kept.loadResetVector (w0 w1 w2 w3 : Word) (s : State) : Kept s (s.loadResetVector w0 w1 w2 w3) :=
  (Kept.jumpTo _ s).trans (Kept.update (by rfl))

theorem Kept.resetSequence (s : State) : Kept s s.resetSequence := by
  have h0 : Kept s (s.resetEntry.progRead 0).2 :=
    (Kept.update rfl : Kept s s.resetEntry).trans (Kept.progRead _ _)
  have h1 := h0.trans (Kept.progRead 0x00002#20 _)
  have h2 := h1.trans (Kept.progRead 0x00004#20 _)
  have h3 := h2.trans (Kept.progRead 0x00006#20 _)
  unfold State.resetSequence
  dsimp only
  split
  · split
    · split
      · split
        · exact h3.trans (Kept.loadResetVector _ _ _ _ _)
        · exact h3
      · exact h2
    · exact h1
  · exact h0

theorem Kept.abortStores (old : State) (places : List (Space × Addr)) (s : State) :
    Kept s (abortStores old places s) := by
  induction places generalizing s with
  | nil => exact Kept.refl s
  | cons place rest ih => exact ((Kept.bump s).trans (Kept.poke _ _ _ _)).trans (ih _)

theorem Kept.abortStep (old s : State) : Kept s (abortStep old s) :=
  (Kept.abortStores old s.stores s).trans (Kept.update (by rfl))

theorem Kept.closeWindow (s : State) : Kept s s.closeWindow := by
  unfold State.closeWindow
  split <;> exact Kept.update (by rfl)

theorem Kept.tagBreakpoint (ia : Addr) (words : Nat) (s : State) : Kept s (s.tagBreakpoint ia words) := by
  unfold State.tagBreakpoint
  split <;> exact Kept.update (by rfl)

theorem Kept.abandonFetch (s : State) : Kept s s.abandonFetch := by
  unfold State.abandonFetch
  split
  · exact Kept.looseBytes _ s
  · exact Kept.refl s

/-- A refusal answers no state. -/
theorem Out.All.refused {p : State → Prop} (r : Refusal) : Out.All p (.refused r) := fun _ h => nomatch h

/-- A fault answers no state. -/
theorem Out.All.fault {p : State → Prop} (r : Fault) : Out.All p (.fault r) := fun _ h => nomatch h

/-- What holds of an outcome reached from a later state holds of it from an earlier one. -/
theorem Out.All.kept_trans {s t : State} {o : Out} (h : Kept s t) (k : Out.All (Kept t) o) : Out.All (Kept s) o :=
  fun u hu => h.trans (k u hu)

theorem Kept.finishInstruction (i : Instr) (old t : State) : Out.All (Kept t) (finishInstruction i old t) := by
  unfold Machine.finishInstruction
  split
  · exact .refused _
  · split
    · exact .next (Kept.tagBreakpoint _ _ t)
    · exact .next (Kept.refl t)

theorem Kept.executeDecoded (w0 w1 w2 : Word) (s : State) : Out.All (Kept s) (executeDecoded w0 w1 w2 s) := by
  unfold Machine.executeDecoded
  split
  · exact .next ((Kept.takeException _ _ s).trans (Kept.tagBreakpoint _ _ _))
  · rename_i i _
    have hexec := Kept.exec i s
    split
    · rename_i t ht
      exact (Kept.finishInstruction i s t).kept_trans (hexec t ht)
    · exact .fault _
    · exact .refused _

theorem Kept.runInstruction (s : State) : Out.All (Kept s) (runInstruction s) := by
  have h0 := Kept.progRead s.pc s
  have h1 := h0.trans (Kept.progRead (s.pc + 2) _)
  have h2 := h1.trans ((Kept.closeWindow _).trans (Kept.progRead (s.pc + 4) _))
  unfold Machine.runInstruction
  dsimp only
  split
  · split
    · exact (Kept.executeDecoded _ _ _ _).kept_trans h2
    · exact .next (h1.trans (Kept.abandonFetch _))
  · exact .next (h0.trans (Kept.abandonFetch _))

theorem Kept.takeBerr (s : State) : Kept s s.takeBerr :=
  (Kept.update (by rfl)).trans (Kept.takeException .berr (s.pc + 6) _)

theorem Kept.takeBkpt (s : State) : Kept s s.takeBkpt := by
  have clear : Kept s { s with hid := { s.hid with bkptPending := false } } := Kept.update (by rfl)
  unfold State.takeBkpt
  dsimp only
  split
  · exact clear.trans (Kept.update (by rfl))
  · exact clear.trans (Kept.takeException _ _ _)

theorem Kept.interruptOrRun (s : State) : Out.All (Kept s) (interruptOrRun s) := by
  unfold Machine.interruptOrRun
  split
  · exact (Kept.runInstruction _).kept_trans (Kept.update (by rfl))
  · split
    · exact .next (Kept.takeException _ _ s)
    · exact Kept.runInstruction s

theorem Kept.runningStep (s : State) : Out.All (Kept s) (runningStep s) := by
  have sample := Kept.sampleIrq7 s
  unfold Machine.runningStep
  dsimp only
  split
  · exact .next (sample.trans (Kept.takeBerr _))
  · have countdown : Kept s { s.sampleIrq7 with hid := { s.sampleIrq7.hid with berrWait := s.hid.berrWait - 1 } } :=
      sample.trans (Kept.update (by rfl))
    split
    · exact .next (countdown.trans (Kept.takeBkpt _))
    · exact (Kept.interruptOrRun _).kept_trans countdown

theorem Kept.idleStep (mask : BitVec 3) (s : State) : Kept s (idleStep mask s) := by
  have sample := Kept.sampleIrq7 s
  unfold Machine.idleStep
  dsimp only
  split
  · exact sample.trans (Kept.takeException _ _ _)
  · exact sample

theorem Kept.stepBody (s : State) : Out.All (Kept s) (stepBody s) := by
  unfold Machine.stepBody
  split
  · exact Kept.runningStep s
  · exact .next (Kept.idleStep _ s)
  · exact .next (Kept.idleStep _ s)
  · exact .next (Kept.refl s)
  · exact .next (Kept.bdmStep s)

/-- Every step keeps the invariant and the platform, whatever the platform and the inputs. -/
theorem Kept.step (s : State) : Out.All (Kept s) (step s) := by
  refine Out.All.kept_trans (Kept.takeInputs s) ?_
  unfold Machine.step Machine.cycle
  dsimp only
  split
  · exact Kept.stepBody _
  · exact .next (Kept.resetSequence _)
  · have body := Kept.stepBody s.takeInputs
    split
    · rename_i t ht
      exact .next ((body t ht).trans ((Kept.abortStep _ t).trans (Kept.resetSequence _)))
    · exact .fault _
    · exact .refused _

/-- Settles O6: every outcome of a step is kept (`Kept.step`). -/
theorem invKept : Obligations.InvKept := fun s t hi h => (Kept.step s t h).inv hi

/-- Settles O7: the platform is the second half of `Kept`. -/
theorem platformKept : Obligations.PlatformKept := fun s t h => (Kept.step s t h).platform

/-- Settles O5. -/
theorem invAtReset : Obligations.InvAtReset := ⟨rfl, rfl, rfl⟩

/-- Settles O4: the fields of a fixed state. -/
theorem resetState : Obligations.ResetState := ⟨rfl, rfl, rfl, rfl, rfl, rfl, rfl, rfl, rfl, rfl⟩

/-- Settles O3: twelve cells of the opcode map. -/
theorem decodedWords : Obligations.DecodedWords := ⟨rfl, rfl, rfl, rfl, rfl, rfl, rfl, rfl, rfl, rfl, rfl, rfl⟩

end Sys2Proof.Machine
end

section
/-!
PROOFS. The instruction boundary (60_exceptions.md R640): the state with the inputs of a step taken and IRQ7 sampled, the
interrupt recognised in it, and the step as one of the outcomes of the boundary.
-/

namespace Sys2Proof.Machine

/-! ### The inputs -/

/-- The inputs of the step are on the pins, and nothing is stored yet. -/
def State.withInputs (p : Pins) (rest : List Pins) (s : State) : State := { s with pins := p, script := rest, stores := [] }

/-- The inputs are taken and IRQ7 is sampled (60_exceptions.md R672). -/
def State.sampled (p : Pins) (rest : List Pins) (s : State) : State := (s.withInputs p rest).sampleIrq7

/-- The countdown of BERR_DELAY goes on (60_exceptions.md R651). -/
def State.countDown (s : State) : State := { s with hid := { s.hid with berrWait := s.hid.berrWait - 1 } }

theorem NextInputs.takeInputs {p : Pins} {rest : List Pins} {s : State} (h : NextInputs p rest s) :
    s.takeInputs = s.withInputs p rest := by
  unfold State.takeInputs State.withInputs
  rcases h with hs | ⟨hs, rfl, rfl⟩ <;> simp only [hs]

@[simp] theorem State.sampled_pc (p : Pins) (rest : List Pins) (s : State) : (s.sampled p rest).pc = s.pc := rfl
@[simp] theorem State.countDown_pc (s : State) : s.countDown.pc = s.pc := rfl

theorem Frame.withInputs (p : Pins) (rest : List Pins) (s : State) : Frame [.inputs] [] s (s.withInputs p rest) :=
  Frame.of_parts rfl rfl rfl fun l h => by cases l <;> first | exact absurd (by decide) h | exact rfl

theorem Frame.sampled (p : Pins) (rest : List Pins) (s : State) :
    Frame [.inputs, .irq7Pending, .irq7Prev] [] s (s.sampled p rest) :=
  Frame.of_parts rfl rfl rfl fun l h => by cases l <;> first | exact absurd (by decide) h | exact rfl

theorem Frame.countDown (s : State) : Frame [.berrWait] [] s s.countDown :=
  Frame.of_parts rfl rfl rfl fun l h => by
    cases l <;> first | exact absurd (by decide) h | exact rfl | exact ⟨rfl, rfl⟩

/-- The boundary of a step that goes on past a bus error not yet due. -/
theorem Frame.sampled_countDown (p : Pins) (rest : List Pins) (s : State) :
    Frame [.inputs, .irq7Pending, .irq7Prev, .berrWait] [] s (s.sampled p rest).countDown :=
  (Frame.sampled p rest s).trans rfl (Frame.countDown _)

/-! ### Interrupts -/

theorem recognised_sampled (p : Pins) (rest : List Pins) (mask : BitVec 3) (s : State) (l : BitVec 3) :
    recognised mask (s.sampled p rest) l = requests p mask s l.toNat := by
  have level7 : l = 7#3 ↔ l.toNat = 7 := by rw [BitVec.toNat_eq]; rfl
  simp only [recognised, requests, level7]
  rfl

theorem topInterrupt_none {p : Pins} {rest : List Pins} {mask : BitVec 3} {s : State} (h : NoRequest p mask s) :
    topInterrupt mask (s.sampled p rest) = none := by
  have range : ∀ l ∈ levels, 1 ≤ l.toNat ∧ l.toNat ≤ 7 := by decide
  refine List.find?_eq_none.mpr fun l hl => ?_
  obtain ⟨low, high⟩ := range l hl
  rw [recognised_sampled, h l.toNat low high]
  exact Bool.false_ne_true

theorem topInterrupt_some {p : Pins} {rest : List Pins} {mask : BitVec 3} {s : State} {l : BitVec 3}
    (h : TopRequest p mask s l) : topInterrupt mask (s.sampled p rest) = some l := by
  obtain ⟨low, hl, above⟩ := h
  have cases7 : ∀ l : BitVec 3, 1 ≤ l.toNat →
      l = 7#3 ∨ l = 6#3 ∨ l = 5#3 ∨ l = 4#3 ∨ l = 3#3 ∨ l = 2#3 ∨ l = 1#3 := by
    decide
  have f := recognised_sampled p rest mask s
  rcases cases7 l low with rfl | rfl | rfl | rfl | rfl | rfl | rfl <;>
    simp_all [topInterrupt, levels, List.find?]

/-! ### The step -/

theorem NextInputs.step_off {p : Pins} {rest : List Pins} {s : State} (h : NextInputs p rest s) (hr : p.reset = .off) :
    step s = stepBody (s.withInputs p rest) := by
  have hpins : (s.withInputs p rest).pins.reset = .off := hr
  rw [step, cycle, h.takeInputs]
  simp only [hpins]

theorem NextInputs.step_running {p : Pins} {rest : List Pins} {s : State} (h : NextInputs p rest s)
    (hr : p.reset = .off) (hrun : s.run = .running) : step s = runningStep (s.withInputs p rest) := by
  have hrun' : (s.withInputs p rest).run = .running := hrun
  rw [h.step_off hr, stepBody]
  simp only [hrun']

theorem runningStep_eq (s : State) :
    runningStep s =
      if s.sampleIrq7.berrDue then .next s.sampleIrq7.takeBerr
      else if s.sampleIrq7.countDown.hid.bkptPending then .next s.sampleIrq7.countDown.takeBkpt
      else interruptOrRun s.sampleIrq7.countDown := rfl

/-- A bus error that is due is taken first (60_exceptions.md R640). -/
theorem NextInputs.step_berr {p : Pins} {rest : List Pins} {s : State} (h : NextInputs p rest s) (hr : p.reset = .off)
    (hrun : s.run = .running) (hd : s.berrDue = true) : step s = .next (s.sampled p rest).takeBerr :=
  have due : (s.sampled p rest).berrDue = true := hd
  (h.step_running hr hrun).trans (if_pos due)

/-- Then a pending breakpoint (60_exceptions.md R640). -/
theorem NextInputs.step_bkpt {p : Pins} {rest : List Pins} {s : State} (h : NextInputs p rest s) (hr : p.reset = .off)
    (hrun : s.run = .running) (hd : s.berrDue = false) (hb : s.hid.bkptPending = true) :
    step s = .next (s.sampled p rest).countDown.takeBkpt := by
  have due : ¬(s.withInputs p rest).sampleIrq7.berrDue = true := ne_true_of_eq_false hd
  have pending : (s.withInputs p rest).sampleIrq7.countDown.hid.bkptPending = true := hb
  rw [h.step_running hr hrun, runningStep_eq, if_neg due, if_pos pending, State.sampled]

/-- Then interrupts, and then the instruction (60_exceptions.md R640). -/
theorem NextInputs.step_last {p : Pins} {rest : List Pins} {s : State} (h : NextInputs p rest s) (hr : p.reset = .off)
    (hrun : s.run = .running) (hd : s.berrDue = false) (hb : s.hid.bkptPending = false) :
    step s = interruptOrRun (s.sampled p rest).countDown := by
  have due : ¬(s.withInputs p rest).sampleIrq7.berrDue = true := ne_true_of_eq_false hd
  have pending : ¬(s.withInputs p rest).sampleIrq7.countDown.hid.bkptPending = true := ne_true_of_eq_false hb
  rw [h.step_running hr hrun, runningStep_eq, if_neg due, if_neg pending, State.sampled]

/-- The interrupt inhibit is used up (60_exceptions.md R640). -/
def State.uninhibited (s : State) : State := { s with hid := { s.hid with irqInhibit := false } }

theorem Frame.uninhibited (s : State) : Frame [.inhibit] [] s s.uninhibited :=
  Frame.of_parts rfl rfl rfl fun l h => by
    cases l <;> first | exact absurd (by decide) h | exact rfl | exact ⟨rfl, rfl⟩

theorem State.uninhibited_of_not_inhibited {s : State} (h : s.hid.irqInhibit = false) : s.uninhibited = s := by
  rw [State.uninhibited, ← h]

theorem interruptOrRun_inhibited {s : State} (h : s.hid.irqInhibit = true) :
    interruptOrRun s = runInstruction s.uninhibited := if_pos h

theorem interruptOrRun_some {s : State} {l : BitVec 3} (h : s.hid.irqInhibit = false)
    (top : topInterrupt s.ccr.ip s = some l) :
    interruptOrRun s = .next (s.takeException (.interrupt l) (s.pc + 6)) := by
  rw [interruptOrRun, if_neg (ne_true_of_eq_false h), top]

theorem interruptOrRun_none {s : State} (h : s.hid.irqInhibit = false) (top : topInterrupt s.ccr.ip s = none) :
    interruptOrRun s = runInstruction s := by
  rw [interruptOrRun, if_neg (ne_true_of_eq_false h), top]

/-- The greatest recognised interrupt, where interrupts are examined (60_exceptions.md R671). -/
theorem NextInputs.step_interrupt {p : Pins} {rest : List Pins} {s : State} {l : BitVec 3} (h : NextInputs p rest s)
    (hr : p.reset = .off) (hrun : s.run = .running) (hd : s.berrDue = false) (hb : s.hid.bkptPending = false)
    (hi : s.hid.irqInhibit = false) (hl : TopRequest p s.ccr.ip s l) :
    step s = .next ((s.sampled p rest).countDown.takeException (.interrupt l) (s.pc + 6)) :=
  have inhibit : (s.sampled p rest).countDown.hid.irqInhibit = false := hi
  have top : topInterrupt (s.sampled p rest).countDown.ccr.ip (s.sampled p rest).countDown = some l :=
    topInterrupt_some hl
  (h.step_last hr hrun hd hb).trans (interruptOrRun_some inhibit top)

/-- The state in which the words of the instruction are fetched. -/
def State.fetching (p : Pins) (rest : List Pins) (s : State) : State := (s.sampled p rest).countDown.uninhibited

theorem Frame.fetching (p : Pins) (rest : List Pins) (s : State) :
    Frame [.inputs, .irq7Pending, .irq7Prev, .berrWait, .inhibit] [] s (s.fetching p rest) :=
  (Frame.sampled_countDown p rest s).trans rfl (Frame.uninhibited _)

/-- The instruction, where nothing comes before it. -/
theorem NextInputs.step_instruction {p : Pins} {rest : List Pins} {s : State} (h : NextInputs p rest s)
    (b : BeginsInstruction p s) : step s = runInstruction (s.fetching p rest) := by
  rw [h.step_last b.reset_off b.running b.no_berr_due b.no_bkpt, State.fetching]
  cases hi : s.hid.irqInhibit with
  | true => exact interruptOrRun_inhibited hi
  | false =>
    have inhibit : (s.sampled p rest).countDown.hid.irqInhibit = false := hi
    have quiet : NoRequest p s.ccr.ip s := b.no_irq.resolve_left (by simp [hi])
    have top : topInterrupt (s.sampled p rest).countDown.ccr.ip (s.sampled p rest).countDown = none :=
      topInterrupt_none quiet
    rw [interruptOrRun_none inhibit top, State.uninhibited_of_not_inhibited inhibit]

/-! ### Exceptions taken at a boundary -/

theorem Frame.skSp_eq {may : List Loc} {bytes : List Addr} {s t : State} (h : Frame may bytes s t)
    (hl : ∀ l ∈ [Loc.sp, .sk], l ∉ may) : t.skSp = s.skSp := by
  have hsp : t.sp = s.sp := h.parts .sp (hl _ (by decide))
  have hsk : t.sk = s.sk := h.parts .sk (hl _ (by decide))
  rw [State.skSp, State.skSp, hsp, hsk]

theorem Frame.ccr_eq {may : List Loc} {bytes : List Addr} {s t : State} (h : Frame may bytes s t)
    (hl : ∀ l ∈ ccrLocs, l ∉ may) : t.ccr = s.ccr := by
  have kept (l : Loc) (m : l ∈ ccrLocs) : l.kept s t := h.parts l (hl l m)
  have hs : t.ccr.s = s.ccr.s := kept .s (by decide)
  have hmv : t.ccr.mv = s.ccr.mv := kept .mv (by decide)
  have hh : t.ccr.h = s.ccr.h := kept .h (by decide)
  have hev : t.ccr.ev = s.ccr.ev := kept .ev (by decide)
  have hn : t.ccr.n = s.ccr.n := kept .n (by decide)
  have hz : t.ccr.z = s.ccr.z := kept .z (by decide)
  have hv : t.ccr.v = s.ccr.v := kept .v (by decide)
  have hc : t.ccr.c = s.ccr.c := kept .c (by decide)
  have hip : t.ccr.ip = s.ccr.ip := kept .ip (by decide)
  have hsm : t.ccr.sm = s.ccr.sm := kept .sm (by decide)
  cases ht : t.ccr
  cases hs' : s.ccr
  simp_all

/-- What is framed from a later state of the boundary is framed from the state before the step. -/
theorem Entered.from_boundary {n : Nat} {ret : Addr} {ip : BitVec 3} {more extra : List Loc} {s t u : State}
    (h : Entered n ret ip more t u) (f : Frame extra [] s t)
    (hx : ∀ l ∈ [Loc.sp, .sk, .platform] ++ ccrLocs, l ∉ extra) : Entered n ret ip (extra ++ more) s u := by
  obtain ⟨⟨hsp, hpc, hccr⟩, hto, hip, hrun, hinh, hframe⟩ := h
  have hs : t.skSp = s.skSp := f.skSp_eq fun l hl => hx l (by revert l; decide)
  have hc : t.ccr = s.ccr := f.ccr_eq fun l hl => hx l (List.mem_append_right _ hl)
  have hp : t.platform = s.platform := f.parts .platform (hx _ (by decide))
  rw [hs] at hsp hpc hccr
  rw [hc] at hccr
  refine ⟨⟨hsp, hpc, hccr⟩, hto, hip, hrun, hinh, (f.trans hp hframe).mono (fun l hl => ?_) fun x hx => ?_⟩
  · simp only [List.mem_append] at hl ⊢
    tauto
  · simpa only [frameBytes, hs, List.nil_append] using hx

/-- An exception may be said to change more. -/
theorem Entered.mono {n : Nat} {ret : Addr} {ip : BitVec 3} {may may' : List Loc} {s t : State}
    (h : Entered n ret ip may s t)
    (sub : ∀ l ∈ may, l ∈ [Loc.sp, .sk, .ip, .run, .inhibit] ++ may') : Entered n ret ip may' s t := by
  obtain ⟨hstack, hto, hip, hrun, hinh, hframe⟩ := h
  refine ⟨hstack, hto, hip, hrun, hinh, hframe.mono (fun l hl => ?_) fun _ => id⟩
  rcases List.mem_append.mp hl with hl | hl
  · exact List.mem_append_left _ hl
  · exact sub l hl

/-- The premise under which exception processing completes speaks of the platform and SK : SP alone. -/
theorem State.EntryClear.congr {n : Nat} {s t : State} (h : s.EntryClear n) (hp : t.platform = s.platform)
    (hs : t.skSp = s.skSp) : t.EntryClear n := by
  refine ⟨?_, hp ▸ h.no_masters⟩
  have := h.no_error
  simpa only [State.entryError, State.busError, hp, hs] using this

/-- And so does whether a transfer of it asserts BKPT. -/
theorem State.entryBreak_congr {s t : State} (n : Nat) (hp : t.platform = s.platform) (hs : t.skSp = s.skSp) :
    t.entryBreak n = s.entryBreak n := by
  simp only [State.entryBreak, State.bkptHit, hp, hs]

end Sys2Proof.Machine
end

section
/-!
PROOFS. What a step does at its boundary (60_exceptions.md R640): the instruction or the illegal instruction exception,
an interrupt, a bus error that is due, a breakpoint, and the idle states.
-/

namespace Sys2Proof.Machine

/-! ### The instruction -/

/-- The boundary and the fetch leave the state in which the instruction is executed. -/
theorem State.closeWindow_fetching (p : Pins) (rest : List Pins) (s : State) :
    (s.fetching p rest).closeWindow = s.begun p rest := by
  cases hw : s.hid.faultWindow <;>
    simp only [State.closeWindow, State.begun, State.fetching, State.uninhibited, State.countDown, State.sampled,
      State.sampleIrq7, State.withInputs, State.irq7Line, nmi, hw, if_true, Bool.false_eq_true, if_false,
      Bool.not_true, Bool.not_false, Bool.and_true, Bool.and_false]

/-- On a quiet platform the fetch reads the three words at PK:PC and executes them. -/
theorem runInstruction_quiet {s : State} (hq : s.Quiet) (hrun : s.run = .running) :
    runInstruction s = executeDecoded (s.peekWord .program s.pc) (s.peekWord .program (s.pc + 2))
      (s.peekWord .program (s.pc + 4)) s.closeWindow := by
  have platform : s.closeWindow.platform = s.platform := (Kept.closeWindow s).platform
  have same : s.closeWindow.peekWord .program (s.pc + 4) = s.peekWord .program (s.pc + 4) := by
    unfold State.closeWindow
    split <;> rfl
  simp only [runInstruction, hq.progRead, hrun, if_true, (hq.of_platform platform).progRead, same]

theorem NextInputs.step_decoded {p : Pins} {rest : List Pins} {s : State} (h : NextInputs p rest s) (hq : s.Quiet)
    (b : BeginsInstruction p s) :
    step s = executeDecoded (s.peekWord .program s.pc) (s.peekWord .program (s.pc + 2))
      (s.peekWord .program (s.pc + 4)) (s.begun p rest) := by
  have hq' : (s.fetching p rest).Quiet := hq.of_platform rfl
  have same (a : Addr) : (s.fetching p rest).peekWord .program a = s.peekWord .program a := rfl
  have pc : (s.fetching p rest).pc = s.pc := rfl
  rw [h.step_instruction b, runInstruction_quiet hq' b.running, State.closeWindow_fetching, pc, same, same, same]

theorem State.Quiet.tagBreakpoint {s : State} (h : s.Quiet) (ia : Addr) (words : Nat) :
    s.tagBreakpoint ia words = s := by
  rw [State.tagBreakpoint, h.bkptHit, if_neg Bool.false_ne_true]

theorem State.Quiet.finishInstruction {t : State} (h : t.Quiet) (i : Instr) (old : State) :
    finishInstruction i old t = if staleStore old i.length t then .refused .storeIntoPrefetch else .next t := by
  rw [Machine.finishInstruction, h.tagBreakpoint, ite_self]

/-- Settles O8: the fetch reads the words that decode to the instruction, and no breakpoint tags it. -/
theorem stepRunsDecoded : Obligations.StepRunsDecoded := fun s t p rest i hq hn b hd _ hx => by
  have platform : t.platform = s.platform := (Kept.exec i (s.begun p rest) t hx).platform
  rw [hn.step_decoded hq b, executeDecoded, hd]
  simp only [hx]
  exact (hq.of_platform platform).finishInstruction i _

theorem Frame.begun (p : Pins) (rest : List Pins) (s : State) :
    Frame [.inputs, .irq7Pending, .irq7Prev, .faultWindow, .berrLatch, .berrWait, .inhibit] [] s (s.begun p rest) :=
  Frame.of_parts rfl rfl rfl fun l h => by cases l <;> first | exact absurd (by decide) h | exact rfl

/-- Settles O9: the illegal instruction exception in the state that the boundary leaves. -/
theorem illegalOpcode : Obligations.IllegalOpcode := fun s p rest r hi hq hn b hd => by
  have hq' : (s.begun p rest).Quiet := hq.of_platform rfl
  have entered := hq'.takeException_plain hi.mem_wf .illegal (by simp) (s.pc + 8)
  have platform := (Kept.takeException .illegal (s.pc + 8) (s.begun p rest)).platform
  have whole := (entered.from_boundary (Frame.begun p rest s) (by decide)).mono
    (may' := [.inputs, .irq7Pending, .irq7Prev, .faultWindow, .berrLatch, .berrWait]) (by decide)
  refine ⟨(s.begun p rest).takeException .illegal (s.pc + 8), ?_, whole, ?_⟩
  · rw [hn.step_decoded hq b, executeDecoded, hd]
    exact congrArg _ ((hq'.of_platform platform).tagBreakpoint _ _)
  · obtain ⟨_, _, _, _, _, frame⟩ := whole
    exact frame.parts .events (by decide)

/-! ### Interrupts -/

theorem vectorNumber_interrupt (s : State) (l : BitVec 3) :
    vectorNumber s.platform (.interrupt l) = interruptVector s l := rfl

/-- An interrupt taken in a state of the boundary, told of the state before the step. -/
theorem State.Quiet.interrupt_entered {s t : State} {p : Pins} {extra : List Loc} (l : BitVec 3) (hq : s.Quiet)
    (wf : Memory.wf s.mem = true) (f : Frame extra [] s t)
    (hx : ∀ l ∈ [Loc.sp, .sk, .platform] ++ ccrLocs, l ∉ extra) (hm : t.mem = s.mem) (he : t.events = s.events)
    (hn : t.hid.irq7Pending = nmi p s) (ret : Addr) :
    Entered (interruptVector s l) ret l (extra ++ [.irq7Pending, .events]) s (t.takeException (.interrupt l) ret) ∧
      (t.takeException (.interrupt l) ret).events = s.events ++ [.iack l] ∧
      (t.takeException (.interrupt l) ret).hid.irq7Pending = (nmi p s && decide (l ≠ 7#3)) := by
  have hp : t.platform = s.platform := f.parts .platform (hx _ (by decide))
  have hq' := hq.of_platform hp
  have wf' : Memory.wf t.mem = true := by rw [hm]; exact wf
  have entered := hq'.takeException_entered wf' (.interrupt l) ret
  obtain ⟨_, _, pending, events⟩ := State.EntryClear.takeException (.interrupt l) (hq'.entryClear _) wf' ret
  rw [hp, vectorNumber_interrupt] at entered
  refine ⟨entered.from_boundary f hx, by rw [events, he]; rfl, ?_⟩
  rw [pending]
  rw [irq7After, hn, decide_not]
  rfl

/-- Settles O11: the interrupt in the state that the boundary leaves. -/
theorem interruptTaken : Obligations.InterruptTaken := fun s p rest l hi hq hn hr hrun hd hb hinh hl => by
  obtain ⟨entered, events, pending⟩ := hq.interrupt_entered (p := p) l hi.mem_wf (Frame.sampled_countDown p rest s)
    (by decide) rfl rfl rfl (s.pc + 6)
  exact ⟨_, hn.step_interrupt hr hrun hd hb hinh hl, entered.mono (by decide), events, pending⟩

/-! ### Idle -/

/-- While stopped or waiting the step is that of the idle states (48_stop_wait_misc.md R610, R611). -/
theorem NextInputs.step_idle {p : Pins} {rest : List Pins} {s : State} {mask : BitVec 3} (h : NextInputs p rest s)
    (hr : p.reset = .off)
    (hidle : s.run = .stopped ∧ mask = s.hid.stopMask ∨ s.run = .waiting ∧ mask = s.ccr.ip) :
    step s = .next (idleStep mask (s.withInputs p rest)) := by
  rw [h.step_off hr, stepBody]
  rcases hidle with ⟨hrun, rfl⟩ | ⟨hrun, rfl⟩
  · have stopped : (s.withInputs p rest).run = .stopped := hrun
    simp only [stopped]
    rfl
  · have waiting : (s.withInputs p rest).run = .waiting := hrun
    simp only [waiting]
    rfl

theorem idleStep_none {p : Pins} {rest : List Pins} {s : State} {mask : BitVec 3} (h : NoRequest p mask s) :
    idleStep mask (s.withInputs p rest) = s.sampled p rest := by
  have top : topInterrupt mask (s.withInputs p rest).sampleIrq7 = none := topInterrupt_none h
  simp only [idleStep, top]
  rfl

theorem idleStep_some {p : Pins} {rest : List Pins} {s : State} {mask l : BitVec 3} (h : TopRequest p mask s l) :
    idleStep mask (s.withInputs p rest) = (s.sampled p rest).takeException (.interrupt l) (s.pc + 6) := by
  have top : topInterrupt mask (s.withInputs p rest).sampleIrq7 = some l := topInterrupt_some h
  simp only [idleStep, top]
  rfl

/-- Settles O12: no request leaves the sampled state, and a request is taken from it. -/
theorem idleUntilInterrupt : Obligations.IdleUntilInterrupt := fun s p rest mask hi hq hn hr hidle => by
  refine ⟨_, hn.step_idle hr hidle, fun none => ?_, fun l hl => ?_⟩
  · rw [idleStep_none none]
    exact ⟨rfl, Frame.sampled p rest s⟩
  · obtain ⟨entered, events, _⟩ := hq.interrupt_entered (p := p) l hi.mem_wf (Frame.sampled p rest s)
      (by decide) rfl rfl rfl (s.pc + 6)
    rw [idleStep_some hl]
    exact ⟨entered.mono (by decide), events⟩

/-! ### Bus errors and breakpoints -/

/-- The double-bus-fault window is open (60_exceptions.md R652). -/
def State.openWindow (s : State) : State := { s with hid := { s.hid with faultWindow := true } }

theorem Frame.openWindow (s : State) : Frame [.faultWindow] [] s s.openWindow :=
  Frame.of_parts rfl rfl rfl fun l h => by
    cases l <;> first | exact absurd (by decide) h | exact rfl | exact ⟨rfl, rfl⟩

/-- Settles O14: the exception in the sampled state with the window open. -/
theorem busErrorTaken : Obligations.BusErrorTaken := fun s p rest hi clear hn hr hrun hd => by
  have clear' : (s.sampled p rest).openWindow.EntryClear 5 := clear.congr rfl rfl
  obtain ⟨entered, pending, _, _⟩ := State.EntryClear.takeException .berr clear' hi.mem_wf (s.pc + 6)
  have boundary : Frame _ [] s (s.sampled p rest).openWindow :=
    (Frame.sampled p rest s).trans rfl (Frame.openWindow _)
  have window : (s.sampled p rest).takeBerr.hid.faultWindow = true := by
    obtain ⟨_, _, _, _, _, frame⟩ := entered
    exact frame.parts .faultWindow (by decide)
  have same : (s.sampled p rest).openWindow.entryBreak 5 = s.entryBreak 5 := State.entryBreak_congr 5 rfl rfl
  exact ⟨_, hn.step_berr hr hrun hd, (entered.from_boundary boundary (by decide)).mono (by decide), window,
    pending.trans (congrArg _ same)⟩

/-- The breakpoint is no longer pending (60_exceptions.md R661). -/
def State.clearBreakpoint (s : State) : State := { s with hid := { s.hid with bkptPending := false } }

@[simp] theorem State.clearBreakpoint_pc (s : State) : s.clearBreakpoint.pc = s.pc := rfl

theorem Frame.clearBreakpoint (s : State) : Frame [.bkptPending] [] s s.clearBreakpoint :=
  Frame.of_parts rfl rfl rfl fun l h => by
    cases l <;> first | exact absurd (by decide) h | exact rfl | exact ⟨rfl, rfl⟩

theorem State.takeBkpt_eq (s : State) :
    s.takeBkpt = if s.hid.bdmEnabled then s.clearBreakpoint.setRun .background
      else s.clearBreakpoint.takeException .bkpt (s.pc + 6) := rfl

/-- Settles O16: background mode, or the exception, in the state that the boundary leaves. -/
theorem breakpointTaken : Obligations.BreakpointTaken := fun s p rest hn hr hrun hd hb => by
  have boundary : Frame _ [] s (s.sampled p rest).countDown.clearBreakpoint :=
    (Frame.sampled_countDown p rest s).trans rfl (Frame.clearBreakpoint _)
  rw [hn.step_bkpt hr hrun hd hb, State.takeBkpt_eq]
  refine ⟨fun enabled => ?_, fun disabled hi clear => ?_⟩
  · have enabled' : (s.sampled p rest).countDown.hid.bdmEnabled = true := enabled
    have entered : Frame _ [] s ((s.sampled p rest).countDown.clearBreakpoint.setRun .background) :=
      boundary.trans rfl (Frame.setRun .background _)
    rw [if_pos enabled']
    exact ⟨_, rfl, rfl, rfl, by simp, entered.mono (by decide) fun _ => id⟩
  · have disabled' : ¬(s.sampled p rest).countDown.hid.bdmEnabled = true := ne_true_of_eq_false disabled
    have clear' : (s.sampled p rest).countDown.clearBreakpoint.EntryClear 4 := clear.congr rfl rfl
    obtain ⟨entered, pending, _, events⟩ := State.EntryClear.takeException .bkpt clear' hi.mem_wf (s.pc + 6)
    have same : (s.sampled p rest).countDown.clearBreakpoint.entryBreak 4 = s.entryBreak 4 :=
      State.entryBreak_congr 4 rfl rfl
    have before : (s.sampled p rest).countDown.clearBreakpoint.events = s.events := boundary.parts .events (by decide)
    rw [before] at events
    rw [if_neg disabled']
    exact ⟨_, rfl, (pending.trans (Bool.false_or _)).trans same,
      (entered.from_boundary boundary (by decide)).mono (by decide), events⟩

end Sys2Proof.Machine
end

section
/-!
PROOFS. What each instruction shape does on a quiet platform: the length of its encoding, the flags it may write, the
result in its register or in memory, and its frame.
-/

namespace Sys2Proof.Machine

/-! ### Lengths -/

theorem memLen_encMem (base pre : Byte) (m : MemOp) : memLen m = BitVec.ofNat 20 (2 * (encMem base pre m).length) := by
  cases m <;> rfl

theorem memLen_encMemD (base : Byte) (m : MemOp) : memLen m = BitVec.ofNat 20 (2 * (encMemD base m).length) := by
  cases m <;> rfl

theorem memLen_encMemE (base : Byte) (m : MemOp) : memLen m = BitVec.ofNat 20 (2 * (encMemE base m).length) := by
  cases m <;> rfl

theorem src8Len_encSrc8 (base : Byte) (src : Src8) :
    src8Len src = BitVec.ofNat 20 (2 * (encSrc8 base src).length) := by
  cases src with
  | imm ii => rfl
  | mem m => exact memLen_encMem base 0x17 m

theorem src16Len_encSrcD (base : Byte) (src : Src16) :
    src16Len src = BitVec.ofNat 20 (2 * (encSrcD base src).length) := by
  cases src with
  | imm8 ii => rfl
  | imm16 jjkk => rfl
  | mem m => exact memLen_encMemD base m

theorem src16Len_encSrcE (base : Byte) (src : Src16) :
    src16Len src = BitVec.ofNat 20 (2 * (encSrcE base src).length) := by
  cases src with
  | imm8 ii => rfl
  | imm16 jjkk => rfl
  | mem m => exact memLen_encMemE base m

theorem src16Len_encSrcI (base immOp : Byte) (src : Src16) :
    src16Len src = BitVec.ofNat 20 (2 * (encSrcI base immOp src).length) := by
  cases src with
  | imm8 ii => rfl
  | imm16 jjkk => rfl
  | mem m => exact memLen_encMem base 0x17 m

theorem four_encBit (base mm : Byte) {m : MemOp} (h : m.noOffset = true) :
    (4 : Addr) = BitVec.ofNat 20 (2 * (encBit base mm m).length) := by
  cases m with
  | eoff r => exact absurd h Bool.false_ne_true
  | ind8 r ff | ind16 r gggg | ext hhll => rfl

theorem six_encBitW (base : Byte) (mmmm : Word) {m : MemOp} (h : m.wordForm = true) :
    (6 : Addr) = BitVec.ofNat 20 (2 * (encBitW base mmmm m).length) := by
  cases m with
  | ind8 r ff | eoff r => exact absurd h Bool.false_ne_true
  | ind16 r gggg | ext hhll => rfl

/-! ### Flags -/

/-- Writing `d` over the flags `c` changes at most the flags named. -/
structure FlagFrame (may : List Loc) (c d : Ccr) : Prop where
  frame : ∀ s : State, s.ccr = c → Frame may [] s (s.setFlags d)

theorem FlagFrame.nzv (c : Ccr) (n z v : Bool) : FlagFrame [.n, .z, .v] c { c with n := n, z := z, v := v } := by
  refine ⟨fun s hs => ?_⟩
  subst hs
  exact Frame.of_parts rfl rfl rfl fun l h => by
    cases l <;> first | exact absurd (by decide) h | exact rfl | exact ⟨rfl, rfl⟩

theorem FlagFrame.nzvc (c : Ccr) (n z v b : Bool) :
    FlagFrame [.n, .z, .v, .c] c { c with n := n, z := z, v := v, c := b } := by
  refine ⟨fun s hs => ?_⟩
  subst hs
  exact Frame.of_parts rfl rfl rfl fun l h => by
    cases l <;> first | exact absurd (by decide) h | exact rfl | exact ⟨rfl, rfl⟩

theorem FlagFrame.hnzvc (c : Ccr) (h n z v b : Bool) :
    FlagFrame [.h, .n, .z, .v, .c] c { c with h := h, n := n, z := z, v := v, c := b } := by
  refine ⟨fun s hs => ?_⟩
  subst hs
  exact Frame.of_parts rfl rfl rfl fun l h => by
    cases l <;> first | exact absurd (by decide) h | exact rfl | exact ⟨rfl, rfl⟩

theorem FlagFrame.logic {w : Nat} (r : BitVec w) (c : Ccr) : FlagFrame [.n, .z, .v] c (c.logic r) := FlagFrame.nzv ..

/-! ### An instruction at work -/

/-- An instruction of `s` has come to `u`: the program counter, the flags and the platform are still those of `s`, the
rest is as a frame says. -/
structure Working (may : List Loc) (bytes : List Addr) (s u : State) : Prop where
  pc : u.pc = s.pc
  ccr : u.ccr = s.ccr
  platform : u.platform = s.platform
  frame : Frame may bytes s u

theorem Working.refl (s : State) : Working [] [] s s := ⟨rfl, rfl, rfl, Frame.refl s⟩

theorem Working.setR8 {may : List Loc} {bytes : List Addr} {s u : State} (h : Working may bytes s u) (r : R8)
    (v : Byte) : Working (may ++ r.locs) bytes s (setR8 r v u) :=
  ⟨by simp [h.pc], by simp [h.ccr], by simp [h.platform],
    by simpa using h.frame.trans h.platform (Frame.setR8 r v u)⟩

theorem Working.setR16 {may : List Loc} {bytes : List Addr} {s u : State} (h : Working may bytes s u) (r : R16)
    (v : Word) : Working (may ++ r.locs) bytes s (setR16 r v u) :=
  ⟨by simp [h.pc], by simp [h.ccr], by simp [h.platform],
    by simpa using h.frame.trans h.platform (Frame.setR16 r v u)⟩

theorem Working.writeByte {s : State} (hq : s.Quiet) (a : Addr) (v : Byte) : Working [] [a] s (s.writeByte a v) := by
  rw [hq.writeByte]
  exact ⟨rfl, rfl, rfl, Frame.poke a v s⟩

theorem Working.writeWord {s : State} (hq : s.Quiet) (a : Addr) (v : Word) :
    Working [] (wordAt a) s (s.writeWord a v) := by
  rw [hq.writeWord]
  exact ⟨pokeWord_pc a v s, pokeWord_ccr a v s, pokeWord_platform a v s, Frame.pokeWord a v s⟩

/-- The end of most instructions: the flags are written, and execution goes on. -/
theorem Working.finish {may fs : List Loc} {bytes : List Addr} {s u : State} {c : Ccr} (h : Working may bytes s u)
    (hf : FlagFrame fs s.ccr c) (len : Addr) : Frame (may ++ fs) bytes s ((u.setFlags c).advance len) := by
  have flags := h.frame.trans h.platform (hf.frame u h.ccr)
  rw [List.append_nil] at flags
  exact flags.then_advance h.platform len

theorem Working.goesOn_advance {may : List Loc} {bytes : List Addr} {i : Instr} {s u : State}
    (h : Working may bytes s u) {len : Addr} (hl : len = BitVec.ofNat 20 i.length) : GoesOn i s (u.advance len) := by
  rw [GoesOn, State.advance_pc, h.pc, hl]

theorem Working.goesOn {may : List Loc} {bytes : List Addr} {i : Instr} {s u : State} (h : Working may bytes s u)
    (c : Ccr) {len : Addr} (hl : len = BitVec.ofNat 20 i.length) : GoesOn i s ((u.setFlags c).advance len) := by
  rw [GoesOn, State.advance_pc, State.setFlags_pc, h.pc, hl]

@[simp] theorem getR8_setFlags (r : R8) (c : Ccr) (s : State) : getR8 r (s.setFlags c) = getR8 r s := by
  cases r <;> rfl

@[simp] theorem getR16_setFlags (r : R16) (c : Ccr) (s : State) : getR16 r (s.setFlags c) = getR16 r s := by
  cases r <;> rfl

/-- The whole effect of an instruction that ends by writing an 8-bit accumulator and the flags. -/
theorem exec_writeR8_spec {i : Instr} {r : R8} {v : Byte} {c : Ccr} {len : Addr} {fs : List Loc} {s : State}
    (hx : exec i s = .next (((setR8 r v s).setFlags c).advance len)) (hl : len = BitVec.ofNat 20 i.length)
    (hf : FlagFrame fs s.ccr c) :
    ∃ t, exec i s = .next t ∧ GoesOn i s t ∧ getR8 r t = v ∧ t.ccr = c ∧ Frame (r.locs ++ fs) [] s t :=
  have w := (Working.refl s).setR8 r v
  ⟨_, hx, w.goesOn c hl, by simp, rfl, w.finish hf len⟩

/-- The whole effect of an instruction that ends by writing a 16-bit register and the flags. -/
theorem exec_writeR16_spec {i : Instr} {r : R16} {v : Word} {c : Ccr} {len : Addr} {fs : List Loc} {s : State}
    (hx : exec i s = .next (((setR16 r v s).setFlags c).advance len)) (hl : len = BitVec.ofNat 20 i.length)
    (hf : FlagFrame fs s.ccr c) :
    ∃ t, exec i s = .next t ∧ GoesOn i s t ∧ getR16 r t = v ∧ t.ccr = c ∧ Frame (r.locs ++ fs) [] s t :=
  have w := (Working.refl s).setR16 r v
  ⟨_, hx, w.goesOn c hl, by simp, rfl, w.finish hf len⟩

/-- The whole effect of an instruction that only writes the flags. -/
theorem exec_writeFlags_spec {i : Instr} {c : Ccr} {len : Addr} {fs : List Loc} {s : State}
    (hx : exec i s = .next ((s.setFlags c).advance len)) (hl : len = BitVec.ofNat 20 i.length)
    (hf : FlagFrame fs s.ccr c) :
    ∃ t, exec i s = .next t ∧ GoesOn i s t ∧ t.ccr = c ∧ Frame fs [] s t :=
  have w := Working.refl s
  ⟨_, hx, w.goesOn c hl, rfl, w.finish hf len⟩

/-- The whole effect of an instruction that ends by storing a byte and writing the flags. -/
theorem exec_storeByte_spec {i : Instr} {a : Addr} {v : Byte} {c : Ccr} {len : Addr} {fs : List Loc} {s : State}
    (hi : s.Inv) (hq : s.Quiet) (hx : exec i s = .next (((s.writeByte a v).setFlags c).advance len))
    (hl : len = BitVec.ofNat 20 i.length) (hf : FlagFrame fs s.ccr c) :
    ∃ t, exec i s = .next t ∧ GoesOn i s t ∧ t.peek .data a = v ∧ t.ccr = c ∧ Frame fs [a] s t := by
  have w := Working.writeByte hq a v
  refine ⟨_, hx, w.goesOn c hl, ?_, rfl, w.finish hf len⟩
  rw [State.peek_advance, State.peek_setFlags, hq.writeByte, State.peek_poke_self hi.mem_wf]

/-- The whole effect of an instruction that ends by storing a word and writing the flags. -/
theorem exec_storeWord_spec {i : Instr} {a : Addr} {v : Word} {c : Ccr} {len : Addr} {fs : List Loc} {s : State}
    (hi : s.Inv) (hq : s.Quiet) (hx : exec i s = .next (((s.writeWord a v).setFlags c).advance len))
    (hl : len = BitVec.ofNat 20 i.length) (hf : FlagFrame fs s.ccr c) :
    ∃ t, exec i s = .next t ∧ GoesOn i s t ∧ t.peekWord .data a = v ∧ t.ccr = c ∧ Frame fs (wordAt a) s t := by
  have w := Working.writeWord hq a v
  refine ⟨_, hx, w.goesOn c hl, ?_, rfl, w.finish hf len⟩
  rw [State.peekWord_advance, State.peekWord_setFlags, hq.writeWord, State.peekWord_pokeWord hi.mem_wf]

/-! ### The shapes on a quiet platform -/

theorem State.Quiet.bin8 {s : State} (h : s.Quiet) (op : Bin 8) (r : R8) (src : Src8) :
    bin8 op r src s = .next (((setR8 r (op (getR8 r s) (value8 src s) s.ccr).1 s).setFlags
      (op (getR8 r s) (value8 src s) s.ccr).2).advance (src8Len src)) := by
  simp only [Machine.bin8, h.readSrc8]

theorem State.Quiet.cmp8 {s : State} (h : s.Quiet) (op : Bin 8) (r : R8) (src : Src8) :
    cmp8 op r src s = .next ((s.setFlags (op (getR8 r s) (value8 src s) s.ccr).2).advance (src8Len src)) := by
  simp only [Machine.cmp8, h.readSrc8]

theorem State.Quiet.bin16 {s : State} (h : s.Quiet) (op : Bin 16) (r : R16) (src : Src16) :
    bin16 op r src s = .next (((setR16 r (op (getR16 r s) (value16 src s) s.ccr).1 s).setFlags
      (op (getR16 r s) (value16 src s) s.ccr).2).advance (src16Len src)) := by
  simp only [Machine.bin16, h.readSrc16]

theorem State.Quiet.cmp16 {s : State} (h : s.Quiet) (op : Bin 16) (r : R16) (src : Src16) :
    cmp16 op r src s = .next ((s.setFlags (op (getR16 r s) (value16 src s) s.ccr).2).advance (src16Len src)) := by
  simp only [Machine.cmp16, h.readSrc16]

theorem State.Quiet.rmw8 {s : State} (h : s.Quiet) (op : Un 8) (m : MemOp) (len : Addr) :
    rmw8 op m len s = .next (((s.writeByte (ea m s) (op (s.peek .data (ea m s)) s.ccr).1).setFlags
      (op (s.peek .data (ea m s)) s.ccr).2).advance len) := by
  simp only [Machine.rmw8, h.readByte]

theorem State.Quiet.rmw16 {s : State} (h : s.Quiet) (op : Un 16) (m : MemOp) (len : Addr) :
    rmw16 op m len s = .next (((s.writeWord (ea m s) (op (s.peekWord .data (ea m s)) s.ccr).1).setFlags
      (op (s.peekWord .data (ea m s)) s.ccr).2).advance len) := by
  simp only [Machine.rmw16, h.readWord]

theorem State.Quiet.test8 {s : State} (h : s.Quiet) (m : MemOp) :
    test8 m s = .next ((s.setFlags (s.ccr.test (s.peek .data (ea m s)))).advance (memLen m)) := by
  simp only [Machine.test8, h.readByte]

theorem State.Quiet.test16 {s : State} (h : s.Quiet) (m : MemOp) :
    test16 m s = .next ((s.setFlags (s.ccr.test (s.peekWord .data (ea m s)))).advance (memLen m)) := by
  simp only [Machine.test16, h.readWord]

end Sys2Proof.Machine
end

section
/-!
PROOFS. Arithmetic, logic and loads on a register and a source (40_data_movement.md, 41_add_sub_compare.md,
43_logic_bit_shift.md): one statement for each kind of operation and operand size, and one row for each instruction.
-/

namespace Sys2Proof.Machine

/-! ### What the operations write to the flags -/

theorem FlagFrame.add8 (x y : Byte) (cin : Bool) (c : Ccr) : FlagFrame [.h, .n, .z, .v, .c] c (add8 x y cin c).2 :=
  FlagFrame.hnzvc ..

theorem FlagFrame.addW {w : Nat} (x y : BitVec w) (cin : Bool) (c : Ccr) :
    FlagFrame [.n, .z, .v, .c] c (addW x y cin c).2 := FlagFrame.nzvc ..

theorem FlagFrame.subW {w : Nat} (x y : BitVec w) (cin : Bool) (c : Ccr) :
    FlagFrame [.n, .z, .v, .c] c (subW x y cin c).2 := FlagFrame.nzvc ..

/-- `add8` is the sum, whatever it does to H. -/
theorem add8_isSum (x y : Byte) (cin : Bool) (c : Ccr) :
    IsSum x y cin (Machine.add8 x y cin c).1 (Machine.add8 x y cin c).2 := addW_isSum (by decide) x y cin c

/-! ### Bytes -/

/-- An addition of a byte source: of the carry too when `carry`. -/
def addOp8 (carry : Bool) : Bin 8 := fun x y c => add8 x y (carry && c.c) c

/-- A subtraction of a source: of the borrow too when `carry`. -/
def subOp {w : Nat} (carry : Bool) : Bin w := fun x y c => subW x y (carry && c.c) c

/-- An addition of a word source: of the carry too when `carry`. -/
def addOp16 (carry : Bool) : Bin 16 := fun x y c => addW x y (carry && c.c) c

/-- The value of a bitwise operation. -/
def Bitwise.apply {w : Nat} (op : Bitwise) (x y : BitVec w) : BitVec w :=
  match op with
  | .and => x &&& y
  | .or => x ||| y
  | .eor => x ^^^ y

theorem Bitwise.apply_isBitwise {w : Nat} (op : Bitwise) (x y : BitVec w) : IsBitwise op x y (op.apply x y) := by
  intro k hk
  cases op with
  | and => exact BitVec.getLsbD_and
  | or => exact BitVec.getLsbD_or
  | eor => exact BitVec.getLsbD_xor

/-- A bitwise operation with its flags. -/
def logicOp {w : Nat} (op : Bitwise) : Bin w := fun x y c => (op.apply x y, c.logic (op.apply x y))

theorem exec_byteSum {i : Instr} {r : R8} {carry : Bool} {src : Src8} {s : State} (hq : s.Quiet)
    (hx : exec i s = bin8 (addOp8 carry) r src s) (hl : src8Len src = BitVec.ofNat 20 i.length) :
    ∃ t, exec i s = .next t ∧ GoesOn i s t ∧
      IsSum (getR8 r s) (value8 src s) (carry && s.ccr.c) (getR8 r t) t.ccr ∧
      t.ccr.h = decide (16 ≤ (getR8 r s).toNat % 16 + (value8 src s).toNat % 16 + (carry && s.ccr.c).toNat) ∧
      Frame (r.locs ++ [.h, .n, .z, .v, .c]) [] s t := by
  obtain ⟨t, hx, hg, hr, hc, hf⟩ := exec_writeR8_spec (hx.trans (hq.bin8 _ r src)) hl (FlagFrame.add8 ..)
  refine ⟨t, hx, hg, ?_, ?_, hf⟩
  · rw [hr, hc]
    exact add8_isSum ..
  · rw [hc]
    rfl

theorem exec_byteDifference {i : Instr} {r : R8} {carry : Bool} {src : Src8} {s : State} (hq : s.Quiet)
    (hx : exec i s = bin8 (subOp carry) r src s) (hl : src8Len src = BitVec.ofNat 20 i.length) :
    ∃ t, exec i s = .next t ∧ GoesOn i s t ∧
      IsDifference (getR8 r s) (value8 src s) (carry && s.ccr.c) (getR8 r t) t.ccr ∧
      Frame (r.locs ++ [.n, .z, .v, .c]) [] s t := by
  obtain ⟨t, hx, hg, hr, hc, hf⟩ := exec_writeR8_spec (hx.trans (hq.bin8 _ r src)) hl (FlagFrame.subW ..)
  refine ⟨t, hx, hg, ?_, hf⟩
  rw [hr, hc]
  exact subW_isDifference (by decide) ..

theorem exec_byteCompare {i : Instr} {r : R8} {src : Src8} {s : State} (hq : s.Quiet)
    (hx : exec i s = cmp8 (subOp false) r src s) (hl : src8Len src = BitVec.ofNat 20 i.length) :
    ∃ t d, exec i s = .next t ∧ GoesOn i s t ∧ IsDifference (getR8 r s) (value8 src s) false d t.ccr ∧
      Frame [.n, .z, .v, .c] [] s t := by
  obtain ⟨t, hx, hg, hc, hf⟩ := exec_writeFlags_spec (hx.trans (hq.cmp8 _ r src)) hl (FlagFrame.subW ..)
  exact ⟨t, _, hx, hg, hc ▸ subW_isDifference (by decide) .., hf⟩

theorem exec_byteLogic {i : Instr} {op : Bitwise} {r : R8} {src : Src8} {s : State} (hq : s.Quiet)
    (hx : exec i s = bin8 (logicOp op) r src s) (hl : src8Len src = BitVec.ofNat 20 i.length) :
    ∃ t, exec i s = .next t ∧ GoesOn i s t ∧ IsBitwise op (getR8 r s) (value8 src s) (getR8 r t) ∧
      IsResult (getR8 r t) t.ccr ∧ Frame (r.locs ++ [.n, .z, .v]) [] s t := by
  obtain ⟨t, hx, hg, hr, hc, hf⟩ := exec_writeR8_spec (hx.trans (hq.bin8 _ r src)) hl (FlagFrame.logic ..)
  refine ⟨t, hx, hg, ?_, ?_, hf⟩
  · rw [hr]
    exact op.apply_isBitwise _ _
  · rw [hr, hc]
    exact logic_isResult ..

theorem exec_byteTest {i : Instr} {op : Bitwise} {r : R8} {src : Src8} {s : State} (hq : s.Quiet)
    (hx : exec i s = cmp8 (logicOp op) r src s) (hl : src8Len src = BitVec.ofNat 20 i.length) :
    ∃ t d, exec i s = .next t ∧ GoesOn i s t ∧ IsBitwise op (getR8 r s) (value8 src s) d ∧ IsResult d t.ccr ∧
      Frame [.n, .z, .v] [] s t := by
  obtain ⟨t, hx, hg, hc, hf⟩ := exec_writeFlags_spec (hx.trans (hq.cmp8 _ r src)) hl (FlagFrame.logic ..)
  exact ⟨t, _, hx, hg, op.apply_isBitwise _ _, hc ▸ logic_isResult .., hf⟩

theorem exec_byteLoad {i : Instr} {r : R8} {src : Src8} {s : State} (hq : s.Quiet)
    (hx : exec i s = bin8 opLoad r src s) (hl : src8Len src = BitVec.ofNat 20 i.length) :
    ∃ t, exec i s = .next t ∧ GoesOn i s t ∧ getR8 r t = value8 src s ∧ IsResult (value8 src s) t.ccr ∧
      Frame (r.locs ++ [.n, .z, .v]) [] s t := by
  obtain ⟨t, hx, hg, hr, hc, hf⟩ := exec_writeR8_spec (hx.trans (hq.bin8 _ r src)) hl (FlagFrame.logic ..)
  refine ⟨t, hx, hg, hr, ?_, hf⟩
  rw [hc]
  exact logic_isResult ..

/-! ### Words -/

theorem exec_wordSum {i : Instr} {r : R16} {carry : Bool} {src : Src16} {s : State} (hq : s.Quiet)
    (hx : exec i s = bin16 (addOp16 carry) r src s) (hl : src16Len src = BitVec.ofNat 20 i.length) :
    ∃ t, exec i s = .next t ∧ GoesOn i s t ∧
      IsSum (getR16 r s) (value16 src s) (carry && s.ccr.c) (getR16 r t) t.ccr ∧
      Frame (r.locs ++ [.n, .z, .v, .c]) [] s t := by
  obtain ⟨t, hx, hg, hr, hc, hf⟩ := exec_writeR16_spec (hx.trans (hq.bin16 _ r src)) hl (FlagFrame.addW ..)
  refine ⟨t, hx, hg, ?_, hf⟩
  rw [hr, hc]
  exact addW_isSum (by decide) ..

theorem exec_wordDifference {i : Instr} {r : R16} {carry : Bool} {src : Src16} {s : State} (hq : s.Quiet)
    (hx : exec i s = bin16 (subOp carry) r src s) (hl : src16Len src = BitVec.ofNat 20 i.length) :
    ∃ t, exec i s = .next t ∧ GoesOn i s t ∧
      IsDifference (getR16 r s) (value16 src s) (carry && s.ccr.c) (getR16 r t) t.ccr ∧
      Frame (r.locs ++ [.n, .z, .v, .c]) [] s t := by
  obtain ⟨t, hx, hg, hr, hc, hf⟩ := exec_writeR16_spec (hx.trans (hq.bin16 _ r src)) hl (FlagFrame.subW ..)
  refine ⟨t, hx, hg, ?_, hf⟩
  rw [hr, hc]
  exact subW_isDifference (by decide) ..

theorem exec_wordCompare {i : Instr} {r : R16} {src : Src16} {s : State} (hq : s.Quiet)
    (hx : exec i s = cmp16 (subOp false) r src s) (hl : src16Len src = BitVec.ofNat 20 i.length) :
    ∃ t d, exec i s = .next t ∧ GoesOn i s t ∧ IsDifference (getR16 r s) (value16 src s) false d t.ccr ∧
      Frame [.n, .z, .v, .c] [] s t := by
  obtain ⟨t, hx, hg, hc, hf⟩ := exec_writeFlags_spec (hx.trans (hq.cmp16 _ r src)) hl (FlagFrame.subW ..)
  exact ⟨t, _, hx, hg, hc ▸ subW_isDifference (by decide) .., hf⟩

theorem exec_wordLogic {i : Instr} {op : Bitwise} {r : R16} {src : Src16} {s : State} (hq : s.Quiet)
    (hx : exec i s = bin16 (logicOp op) r src s) (hl : src16Len src = BitVec.ofNat 20 i.length) :
    ∃ t, exec i s = .next t ∧ GoesOn i s t ∧ IsBitwise op (getR16 r s) (value16 src s) (getR16 r t) ∧
      IsResult (getR16 r t) t.ccr ∧ Frame (r.locs ++ [.n, .z, .v]) [] s t := by
  obtain ⟨t, hx, hg, hr, hc, hf⟩ := exec_writeR16_spec (hx.trans (hq.bin16 _ r src)) hl (FlagFrame.logic ..)
  refine ⟨t, hx, hg, ?_, ?_, hf⟩
  · rw [hr]
    exact op.apply_isBitwise _ _
  · rw [hr, hc]
    exact logic_isResult ..

theorem exec_wordLoad {i : Instr} {r : R16} {src : Src16} {s : State} (hq : s.Quiet)
    (hx : exec i s = bin16 opLoad r src s) (hl : src16Len src = BitVec.ofNat 20 i.length) :
    ∃ t, exec i s = .next t ∧ GoesOn i s t ∧ getR16 r t = value16 src s ∧ IsResult (value16 src s) t.ccr ∧
      Frame (r.locs ++ [.n, .z, .v]) [] s t := by
  obtain ⟨t, hx, hg, hr, hc, hf⟩ := exec_writeR16_spec (hx.trans (hq.bin16 _ r src)) hl (FlagFrame.logic ..)
  exact ⟨t, hx, hg, hr, hc ▸ logic_isResult .., hf⟩

/-! ### The rows -/

/-- Settles O22: each row is one byte addition, with the carry of the ADC pair. -/
theorem byteAddition : Obligations.ByteAddition := by
  unfold Obligations.ByteAddition
  simp only [List.forall_mem_cons]
  exact ⟨fun src _ hq => exec_byteSum hq rfl (src8Len_encSrc8 _ src),
    fun src _ hq => exec_byteSum hq rfl (src8Len_encSrc8 _ src),
    fun src _ hq => exec_byteSum hq rfl (src8Len_encSrc8 _ src),
    fun src _ hq => exec_byteSum hq rfl (src8Len_encSrc8 _ src), List.forall_mem_nil _⟩

/-- Settles O23: four rows are byte differences, with the borrow of the SBC pair, and two are compares. -/
theorem byteSubtraction : Obligations.ByteSubtraction := by
  unfold Obligations.ByteSubtraction
  simp only [List.forall_mem_cons]
  exact ⟨⟨fun src _ hq => exec_byteDifference hq rfl (src8Len_encSrc8 _ src),
      fun src _ hq => exec_byteDifference hq rfl (src8Len_encSrc8 _ src),
      fun src _ hq => exec_byteDifference hq rfl (src8Len_encSrc8 _ src),
      fun src _ hq => exec_byteDifference hq rfl (src8Len_encSrc8 _ src), List.forall_mem_nil _⟩,
    fun src _ hq => exec_byteCompare hq rfl (src8Len_encSrc8 _ src),
    fun src _ hq => exec_byteCompare hq rfl (src8Len_encSrc8 _ src), List.forall_mem_nil _⟩

/-- Settles O24: six rows are bitwise operations, two are bit tests and two are loads. -/
theorem byteLogic : Obligations.ByteLogic := by
  unfold Obligations.ByteLogic
  simp only [List.forall_mem_cons]
  exact ⟨⟨fun src _ hq => exec_byteLogic hq rfl (src8Len_encSrc8 _ src),
      fun src _ hq => exec_byteLogic hq rfl (src8Len_encSrc8 _ src),
      fun src _ hq => exec_byteLogic hq rfl (src8Len_encSrc8 _ src),
      fun src _ hq => exec_byteLogic hq rfl (src8Len_encSrc8 _ src),
      fun src _ hq => exec_byteLogic hq rfl (src8Len_encSrc8 _ src),
      fun src _ hq => exec_byteLogic hq rfl (src8Len_encSrc8 _ src), List.forall_mem_nil _⟩,
    ⟨fun src _ hq => exec_byteTest hq rfl (src8Len_encSrc8 _ src),
      fun src _ hq => exec_byteTest hq rfl (src8Len_encSrc8 _ src), List.forall_mem_nil _⟩,
    fun src _ hq => exec_byteLoad hq rfl (src8Len_encSrc8 _ src),
    fun src _ hq => exec_byteLoad hq rfl (src8Len_encSrc8 _ src), List.forall_mem_nil _⟩

/-- Settles O25: each row is one word addition, with the carry of the ADC pair. -/
theorem wordAddition : Obligations.WordAddition := by
  unfold Obligations.WordAddition
  simp only [List.forall_mem_cons]
  exact ⟨fun src _ _ hq => exec_wordSum hq rfl (src16Len_encSrcD _ src),
    fun src _ _ hq => exec_wordSum hq rfl (src16Len_encSrcE _ src),
    fun src _ _ hq => exec_wordSum hq rfl (src16Len_encSrcD _ src),
    fun src _ _ hq => exec_wordSum hq rfl (src16Len_encSrcE _ src), List.forall_mem_nil _⟩

/-- Settles O26: four rows are word differences, with the borrow of the SBC pair, and six are compares. -/
theorem wordSubtraction : Obligations.WordSubtraction := by
  unfold Obligations.WordSubtraction
  simp only [List.forall_mem_cons]
  exact ⟨⟨fun src _ _ hq => exec_wordDifference hq rfl (src16Len_encSrcD _ src),
      fun src _ _ hq => exec_wordDifference hq rfl (src16Len_encSrcE _ src),
      fun src _ _ hq => exec_wordDifference hq rfl (src16Len_encSrcD _ src),
      fun src _ _ hq => exec_wordDifference hq rfl (src16Len_encSrcE _ src), List.forall_mem_nil _⟩,
    fun src _ _ hq => exec_wordCompare hq rfl (src16Len_encSrcD _ src),
    fun src _ _ hq => exec_wordCompare hq rfl (src16Len_encSrcE _ src),
    fun src _ _ hq => exec_wordCompare hq rfl (src16Len_encSrcI _ _ src),
    fun src _ _ hq => exec_wordCompare hq rfl (src16Len_encSrcI _ _ src),
    fun src _ _ hq => exec_wordCompare hq rfl (src16Len_encSrcI _ _ src),
    fun src _ _ hq => exec_wordCompare hq rfl (src16Len_encSrcI _ _ src), List.forall_mem_nil _⟩

/-- Settles O27: six rows are bitwise operations and six are loads. -/
theorem wordLogic : Obligations.WordLogic := by
  unfold Obligations.WordLogic
  simp only [List.forall_mem_cons]
  exact ⟨⟨fun src _ _ hq => exec_wordLogic hq rfl (src16Len_encSrcD _ src),
      fun src _ _ hq => exec_wordLogic hq rfl (src16Len_encSrcE _ src),
      fun src _ _ hq => exec_wordLogic hq rfl (src16Len_encSrcD _ src),
      fun src _ _ hq => exec_wordLogic hq rfl (src16Len_encSrcE _ src),
      fun src _ _ hq => exec_wordLogic hq rfl (src16Len_encSrcD _ src),
      fun src _ _ hq => exec_wordLogic hq rfl (src16Len_encSrcE _ src), List.forall_mem_nil _⟩,
    fun src _ _ hq => exec_wordLoad hq rfl (src16Len_encSrcD _ src),
    fun src _ _ hq => exec_wordLoad hq rfl (src16Len_encSrcE _ src),
    fun src _ _ hq => exec_wordLoad hq rfl (src16Len_encSrcI _ _ src),
    fun src _ _ hq => exec_wordLoad hq rfl (src16Len_encSrcI _ _ src),
    fun src _ _ hq => exec_wordLoad hq rfl (src16Len_encSrcI _ _ src),
    fun src _ _ hq => exec_wordLoad hq rfl (src16Len_encSrcI _ _ src), List.forall_mem_nil _⟩

end Sys2Proof.Machine
end

section
/-!
PROOFS. Operations on registers alone, on a memory byte and on a memory word, and stores (40_data_movement.md,
41_add_sub_compare.md, 42_mul_div_inc_clr.md, 43_logic_bit_shift.md): one statement for each shape, and one row for each
instruction.
-/

namespace Sys2Proof.Machine

/-! ### The operations on one operand -/

/-- What the model computes for each operation on one operand. -/
def unaryOp {w : Nat} (op : Unary) : Un w :=
  match op with
  | .com => opCom
  | .dec => opDec
  | .neg => opNeg
  | .inc => opInc
  | .asl => opAsl
  | .clr => opClr
  | .tst => opTst
  | .rol => opRol
  | .asr => opAsr
  | .ror => opRor
  | .lsr => opLsr

theorem unaryOp_isUnary {w : Nat} (h : 0 < w) (op : Unary) (v : BitVec w) (c : Ccr) :
    IsUnary op v c (unaryOp op v c).1 (unaryOp op v c).2 := by
  cases op with
  | com => exact opCom_isUnary v c
  | dec => exact opDec_isUnary h v c
  | neg => exact opNeg_isUnary h v c
  | inc => exact opInc_isUnary h v c
  | asl => exact opAsl_isUnary v c
  | clr => exact opClr_isUnary v c
  | tst => exact opTst_isUnary v c
  | rol => exact opRol_isUnary h v c
  | asr => exact opAsr_isUnary v c
  | ror => exact opRor_isUnary h v c
  | lsr => exact opLsr_isUnary v c

theorem FlagFrame.unaryOp {w : Nat} (op : Unary) (v : BitVec w) (c : Ccr) :
    FlagFrame [.n, .z, .v, .c] c (unaryOp op v c).2 := by
  cases op <;> exact FlagFrame.nzvc ..

/-! ### Registers alone -/

theorem exec_unaryR8 {i : Instr} {op : Unary} {r : R8} {s : State} (hx : exec i s = un8 (unaryOp op) r s)
    (hl : 2 = BitVec.ofNat 20 i.length) :
    ∃ t, exec i s = .next t ∧ GoesOn i s t ∧ IsUnary op (getR8 r s) s.ccr (getR8 r t) t.ccr ∧
      Frame (r.locs ++ [.n, .z, .v, .c]) [] s t := by
  obtain ⟨t, hx, hg, hr, hc, hf⟩ := exec_writeR8_spec hx hl (FlagFrame.unaryOp ..)
  refine ⟨t, hx, hg, ?_, hf⟩
  rw [hr, hc]
  exact unaryOp_isUnary (by decide) ..

theorem exec_unaryR16 {i : Instr} {op : Unary} {r : R16} {s : State} (hx : exec i s = un16 (unaryOp op) r s)
    (hl : 2 = BitVec.ofNat 20 i.length) :
    ∃ t, exec i s = .next t ∧ GoesOn i s t ∧ IsUnary op (getR16 r s) s.ccr (getR16 r t) t.ccr ∧
      Frame (r.locs ++ [.n, .z, .v, .c]) [] s t := by
  obtain ⟨t, hx, hg, hr, hc, hf⟩ := exec_writeR16_spec hx hl (FlagFrame.unaryOp ..)
  refine ⟨t, hx, hg, ?_, hf⟩
  rw [hr, hc]
  exact unaryOp_isUnary (by decide) ..

theorem exec_copyR8 {i : Instr} {r : R8} {x y : Byte} {s : State} (hx : exec i s = reg8 opLoad r x y s)
    (hl : 2 = BitVec.ofNat 20 i.length) :
    ∃ t, exec i s = .next t ∧ GoesOn i s t ∧ getR8 r t = y ∧ IsResult y t.ccr ∧ Frame (r.locs ++ [.n, .z, .v]) [] s t := by
  obtain ⟨t, hx, hg, hr, hc, hf⟩ := exec_writeR8_spec hx hl (FlagFrame.logic ..)
  exact ⟨t, hx, hg, hr, hc ▸ logic_isResult .., hf⟩

theorem exec_copyR16 {i : Instr} {r : R16} {x y : Word} {s : State} (hx : exec i s = reg16 opLoad r x y s)
    (hl : 2 = BitVec.ofNat 20 i.length) :
    ∃ t, exec i s = .next t ∧ GoesOn i s t ∧ getR16 r t = y ∧ IsResult y t.ccr ∧
      Frame (r.locs ++ [.n, .z, .v]) [] s t := by
  obtain ⟨t, hx, hg, hr, hc, hf⟩ := exec_writeR16_spec hx hl (FlagFrame.logic ..)
  exact ⟨t, hx, hg, hr, hc ▸ logic_isResult .., hf⟩

theorem exec_aba_spec (s : State) :
    ∃ t, exec .aba s = .next t ∧ GoesOn .aba s t ∧ IsSum s.a s.b false t.a t.ccr ∧
      t.ccr.h = decide (16 ≤ s.a.toNat % 16 + s.b.toNat % 16) ∧ Frame [.a, .h, .n, .z, .v, .c] [] s t := by
  obtain ⟨t, hx, hg, hr, hc, hf⟩ :=
    exec_writeR8_spec (i := .aba) (r := .a) (s := s) rfl rfl (FlagFrame.add8 s.a s.b false s.ccr)
  refine ⟨t, hx, hg, ?_, ?_, hf⟩
  · rw [hc, show t.a = _ from hr]
    exact add8_isSum ..
  · rw [hc]
    rfl

theorem exec_sba_spec (s : State) :
    ∃ t, exec .sba s = .next t ∧ GoesOn .sba s t ∧ IsDifference s.a s.b false t.a t.ccr ∧
      Frame [.a, .n, .z, .v, .c] [] s t := by
  obtain ⟨t, hx, hg, hr, hc, hf⟩ :=
    exec_writeR8_spec (i := .sba) (r := .a) (s := s) rfl rfl (FlagFrame.subW s.a s.b false s.ccr)
  refine ⟨t, hx, hg, ?_, hf⟩
  rw [hc, show t.a = _ from hr]
  exact subW_isDifference (by decide) ..

theorem exec_cba_spec (s : State) :
    ∃ t r, exec .cba s = .next t ∧ GoesOn .cba s t ∧ IsDifference s.a s.b false r t.ccr ∧
      Frame [.n, .z, .v, .c] [] s t := by
  obtain ⟨t, hx, hg, hc, hf⟩ :=
    exec_writeFlags_spec (i := .cba) (s := s) rfl rfl (FlagFrame.subW s.a s.b false s.ccr)
  exact ⟨t, _, hx, hg, hc ▸ subW_isDifference (by decide) .., hf⟩

theorem exec_ade_spec (s : State) :
    ∃ t, exec .ade s = .next t ∧ GoesOn .ade s t ∧ IsSum s.e s.d false t.e t.ccr ∧
      Frame [.e, .n, .z, .v, .c] [] s t := by
  obtain ⟨t, hx, hg, hr, hc, hf⟩ :=
    exec_writeR16_spec (i := .ade) (r := .e) (s := s) rfl rfl (FlagFrame.addW s.e s.d false s.ccr)
  refine ⟨t, hx, hg, ?_, hf⟩
  rw [hc, show t.e = _ from hr]
  exact addW_isSum (by decide) ..

theorem exec_sde_spec (s : State) :
    ∃ t, exec .sde s = .next t ∧ GoesOn .sde s t ∧ IsDifference s.e s.d false t.e t.ccr ∧
      Frame [.e, .n, .z, .v, .c] [] s t := by
  obtain ⟨t, hx, hg, hr, hc, hf⟩ :=
    exec_writeR16_spec (i := .sde) (r := .e) (s := s) rfl rfl (FlagFrame.subW s.e s.d false s.ccr)
  refine ⟨t, hx, hg, ?_, hf⟩
  rw [hc, show t.e = _ from hr]
  exact subW_isDifference (by decide) ..

/-- Settles O28: the sums and differences of the registers, and the copies. -/
theorem registerArithmetic : Obligations.RegisterArithmetic := fun s =>
  ⟨exec_aba_spec s, exec_sba_spec s, exec_cba_spec s, exec_ade_spec s, exec_sde_spec s,
    exec_copyR8 (r := .b) rfl rfl, exec_copyR8 (r := .a) rfl rfl, exec_copyR16 (r := .e) rfl rfl,
    exec_copyR16 (r := .d) rfl rfl⟩

/-- Settles O30: each row is one operation on one accumulator. -/
theorem accumulatorUnary : Obligations.AccumulatorUnary := by
  unfold Obligations.AccumulatorUnary
  simp only [List.forall_mem_cons]
  exact ⟨⟨fun _ => exec_unaryR8 rfl rfl, fun _ => exec_unaryR8 rfl rfl, fun _ => exec_unaryR8 rfl rfl,
      fun _ => exec_unaryR8 rfl rfl, fun _ => exec_unaryR8 rfl rfl, fun _ => exec_unaryR8 rfl rfl,
      fun _ => exec_unaryR8 rfl rfl, fun _ => exec_unaryR8 rfl rfl, fun _ => exec_unaryR8 rfl rfl,
      fun _ => exec_unaryR8 rfl rfl, fun _ => exec_unaryR8 rfl rfl, fun _ => exec_unaryR8 rfl rfl,
      fun _ => exec_unaryR8 rfl rfl, fun _ => exec_unaryR8 rfl rfl, fun _ => exec_unaryR8 rfl rfl,
      fun _ => exec_unaryR8 rfl rfl, fun _ => exec_unaryR8 rfl rfl, fun _ => exec_unaryR8 rfl rfl,
      fun _ => exec_unaryR8 rfl rfl, fun _ => exec_unaryR8 rfl rfl, fun _ => exec_unaryR8 rfl rfl,
      fun _ => exec_unaryR8 rfl rfl, List.forall_mem_nil _⟩,
    fun _ => exec_unaryR16 rfl rfl, fun _ => exec_unaryR16 rfl rfl, fun _ => exec_unaryR16 rfl rfl,
    fun _ => exec_unaryR16 rfl rfl, fun _ => exec_unaryR16 rfl rfl, fun _ => exec_unaryR16 rfl rfl,
    fun _ => exec_unaryR16 rfl rfl, fun _ => exec_unaryR16 rfl rfl, fun _ => exec_unaryR16 rfl rfl,
    fun _ => exec_unaryR16 rfl rfl, fun _ => exec_unaryR16 rfl rfl, fun _ => exec_unaryR16 rfl rfl,
    fun _ => exec_unaryR16 rfl rfl, fun _ => exec_unaryR16 rfl rfl, fun _ => exec_unaryR16 rfl rfl,
    fun _ => exec_unaryR16 rfl rfl, fun _ => exec_unaryR16 rfl rfl, fun _ => exec_unaryR16 rfl rfl,
    List.forall_mem_nil _⟩

/-! ### A memory operand, read, modified and written -/

/-- An operation on a memory byte, after the byte was read. -/
def unaryByte (op : Unary) (m : MemOp) (s : State) : State :=
  ((s.writeByte (ea m s) (unaryOp op (s.peek .data (ea m s)) s.ccr).1).setFlags
    (unaryOp op (s.peek .data (ea m s)) s.ccr).2).advance (memLen m)

/-- An operation on a memory word, after the word was read. -/
def unaryWord (op : Unary) (m : MemOp) (s : State) : State :=
  ((s.writeWord (ea m s) (unaryOp op (s.peekWord .data (ea m s)) s.ccr).1).setFlags
    (unaryOp op (s.peekWord .data (ea m s)) s.ccr).2).advance (memLen m)

theorem exec_unaryByte {i : Instr} {op : Unary} {m : MemOp} {s : State} (hi : s.Inv) (hq : s.Quiet)
    (hl : memLen m = BitVec.ofNat 20 i.length) (hx : exec i s = .next (unaryByte op m s)) :
    ∃ t, exec i s = .next t ∧ GoesOn i s t ∧
      IsUnary op (s.peek .data (ea m s)) s.ccr (t.peek .data (ea m s)) t.ccr ∧
      Frame [.n, .z, .v, .c] [ea m s] s t := by
  obtain ⟨t, hx, hg, hr, hc, hf⟩ := exec_storeByte_spec hi hq hx hl (FlagFrame.unaryOp ..)
  refine ⟨t, hx, hg, ?_, hf⟩
  rw [hr, hc]
  exact unaryOp_isUnary (by decide) ..

theorem exec_unaryWord {i : Instr} {op : Unary} {m : MemOp} {s : State} (hi : s.Inv) (hq : s.Quiet)
    (hl : memLen m = BitVec.ofNat 20 i.length) (hx : exec i s = .next (unaryWord op m s)) :
    ∃ t, exec i s = .next t ∧ GoesOn i s t ∧
      IsUnary op (s.peekWord .data (ea m s)) s.ccr (t.peekWord .data (ea m s)) t.ccr ∧
      Frame [.n, .z, .v, .c] (wordAt (ea m s)) s t := by
  obtain ⟨t, hx, hg, hr, hc, hf⟩ := exec_storeWord_spec hi hq hx hl (FlagFrame.unaryOp ..)
  refine ⟨t, hx, hg, ?_, hf⟩
  rw [hr, hc]
  exact unaryOp_isUnary (by decide) ..

theorem exec_rmwByte {i : Instr} {op : Unary} {m : MemOp} {s : State} (hi : s.Inv) (hq : s.Quiet)
    (hl : memLen m = BitVec.ofNat 20 i.length) (hx : exec i s = rmw8 (unaryOp op) m (memLen m) s) :
    ∃ t, exec i s = .next t ∧ GoesOn i s t ∧
      IsUnary op (s.peek .data (ea m s)) s.ccr (t.peek .data (ea m s)) t.ccr ∧
      Frame [.n, .z, .v, .c] [ea m s] s t :=
  exec_unaryByte hi hq hl (hx.trans (hq.rmw8 ..))

theorem exec_rmwWord {i : Instr} {op : Unary} {m : MemOp} {s : State} (hi : s.Inv) (hq : s.Quiet)
    (hl : memLen m = BitVec.ofNat 20 i.length) (hx : exec i s = rmw16 (unaryOp op) m (memLen m) s) :
    ∃ t, exec i s = .next t ∧ GoesOn i s t ∧
      IsUnary op (s.peekWord .data (ea m s)) s.ccr (t.peekWord .data (ea m s)) t.ccr ∧
      Frame [.n, .z, .v, .c] (wordAt (ea m s)) s t :=
  exec_unaryWord hi hq hl (hx.trans (hq.rmw16 ..))

theorem exec_tst_spec (m : MemOp) {s : State} (hq : s.Quiet) :
    ∃ t, exec (.tst m) s = .next t ∧ GoesOn (.tst m) s t ∧
      IsUnary .tst (s.peek .data (ea m s)) s.ccr (s.peek .data (ea m s)) t.ccr ∧ Frame [.n, .z, .v, .c] [] s t := by
  obtain ⟨t, hx, hg, hc, hf⟩ :=
    exec_writeFlags_spec (i := .tst m) (hq.test8 m) (memLen_encMem _ _ m) (FlagFrame.nzvc ..)
  exact ⟨t, hx, hg, hc ▸ opTst_isUnary .., hf⟩

theorem exec_tstw_spec (m : MemOp) {s : State} (hq : s.Quiet) :
    ∃ t, exec (.tstw m) s = .next t ∧ GoesOn (.tstw m) s t ∧
      IsUnary .tst (s.peekWord .data (ea m s)) s.ccr (s.peekWord .data (ea m s)) t.ccr ∧
      Frame [.n, .z, .v, .c] [] s t := by
  obtain ⟨t, hx, hg, hc, hf⟩ :=
    exec_writeFlags_spec (i := .tstw m) (hq.test16 m) (memLen_encMem _ _ m) (FlagFrame.nzvc ..)
  exact ⟨t, hx, hg, hc ▸ opTst_isUnary .., hf⟩

/-- Settles O31: nine rows read, modify and write a byte, CLR writes it without reading, and TST only reads. -/
theorem memoryByteUnary : Obligations.MemoryByteUnary := by
  unfold Obligations.MemoryByteUnary
  simp only [List.forall_mem_cons]
  exact ⟨⟨fun m _ _ hi hq => exec_rmwByte hi hq (memLen_encMem _ _ m) rfl,
      fun m _ _ hi hq => exec_rmwByte hi hq (memLen_encMem _ _ m) rfl,
      fun m _ _ hi hq => exec_rmwByte hi hq (memLen_encMem _ _ m) rfl,
      fun m _ _ hi hq => exec_rmwByte hi hq (memLen_encMem _ _ m) rfl,
      fun m _ _ hi hq => exec_rmwByte hi hq (memLen_encMem _ _ m) rfl,
      fun m _ _ hi hq => exec_unaryByte hi hq (memLen_encMem _ _ m) rfl,
      fun m _ _ hi hq => exec_rmwByte hi hq (memLen_encMem _ _ m) rfl,
      fun m _ _ hi hq => exec_rmwByte hi hq (memLen_encMem _ _ m) rfl,
      fun m _ _ hi hq => exec_rmwByte hi hq (memLen_encMem _ _ m) rfl,
      fun m _ _ hi hq => exec_rmwByte hi hq (memLen_encMem _ _ m) rfl, List.forall_mem_nil _⟩,
    fun m _ _ hq => exec_tst_spec m hq⟩

/-- Settles O32: nine rows read, modify and write a word, CLRW writes it without reading, and TSTW only reads. -/
theorem memoryWordUnary : Obligations.MemoryWordUnary := by
  unfold Obligations.MemoryWordUnary
  simp only [List.forall_mem_cons]
  exact ⟨⟨fun m _ _ hi hq => exec_rmwWord hi hq (memLen_encMem _ _ m) rfl,
      fun m _ _ hi hq => exec_rmwWord hi hq (memLen_encMem _ _ m) rfl,
      fun m _ _ hi hq => exec_rmwWord hi hq (memLen_encMem _ _ m) rfl,
      fun m _ _ hi hq => exec_rmwWord hi hq (memLen_encMem _ _ m) rfl,
      fun m _ _ hi hq => exec_rmwWord hi hq (memLen_encMem _ _ m) rfl,
      fun m _ _ hi hq => exec_unaryWord hi hq (memLen_encMem _ _ m) rfl,
      fun m _ _ hi hq => exec_rmwWord hi hq (memLen_encMem _ _ m) rfl,
      fun m _ _ hi hq => exec_rmwWord hi hq (memLen_encMem _ _ m) rfl,
      fun m _ _ hi hq => exec_rmwWord hi hq (memLen_encMem _ _ m) rfl,
      fun m _ _ hi hq => exec_rmwWord hi hq (memLen_encMem _ _ m) rfl, List.forall_mem_nil _⟩,
    fun m _ _ hq => exec_tstw_spec m hq⟩

/-! ### Bits of a memory operand -/

theorem getLsbD_bclr {w k : Nat} (v mask : BitVec w) (c : Ccr) (hk : k < w) :
    (opBclr mask v c).1.getLsbD k = (v.getLsbD k && !mask.getLsbD k) := by
  simp [opBclr, hk]

theorem getLsbD_bset {w k : Nat} (v mask : BitVec w) (c : Ccr) :
    (opBset mask v c).1.getLsbD k = (v.getLsbD k || mask.getLsbD k) := BitVec.getLsbD_or

theorem exec_maskByte {i : Instr} {op : Un 8} {m : MemOp} {s : State} (hi : s.Inv) (hq : s.Quiet)
    (hx : exec i s = rmw8 op m 4 s) (hl : 4 = BitVec.ofNat 20 i.length) (hop : ∀ v c, (op v c).2 = c.logic (op v c).1) :
    ∃ t, exec i s = .next t ∧ GoesOn i s t ∧ t.peek .data (ea m s) = (op (s.peek .data (ea m s)) s.ccr).1 ∧
      IsResult (t.peek .data (ea m s)) t.ccr ∧ Frame [.n, .z, .v] [ea m s] s t := by
  obtain ⟨t, hx, hg, hr, hc, hf⟩ :=
    exec_storeByte_spec hi hq (hx.trans (hq.rmw8 ..)) hl (by rw [hop]; exact FlagFrame.logic ..)
  refine ⟨t, hx, hg, hr, ?_, hf⟩
  rw [hr, hc, hop]
  exact logic_isResult ..

theorem exec_maskWord {i : Instr} {op : Un 16} {m : MemOp} {s : State} (hi : s.Inv) (hq : s.Quiet)
    (hx : exec i s = rmw16 op m 6 s) (hl : 6 = BitVec.ofNat 20 i.length)
    (hop : ∀ v c, (op v c).2 = c.logic (op v c).1) :
    ∃ t, exec i s = .next t ∧ GoesOn i s t ∧
      t.peekWord .data (ea m s) = (op (s.peekWord .data (ea m s)) s.ccr).1 ∧
      IsResult (t.peekWord .data (ea m s)) t.ccr ∧ Frame [.n, .z, .v] (wordAt (ea m s)) s t := by
  obtain ⟨t, hx, hg, hr, hc, hf⟩ :=
    exec_storeWord_spec hi hq (hx.trans (hq.rmw16 ..)) hl (by rw [hop]; exact FlagFrame.logic ..)
  refine ⟨t, hx, hg, hr, ?_, hf⟩
  rw [hr, hc, hop]
  exact logic_isResult ..

/-- Settles O33: each stores the byte or the word read, with the bits of the mask cleared or set. -/
theorem memoryBits : Obligations.MemoryBits := by
  refine ⟨fun mm m s hm hi hq => ⟨?_, ?_⟩, fun mmmm m s hm hi hq => ⟨?_, ?_⟩⟩
  · obtain ⟨t, hx, hg, hr, hc, hf⟩ := exec_maskByte (i := .bclr mm m) hi hq rfl (four_encBit _ mm hm) fun _ _ => rfl
    exact ⟨t, hx, hg, fun k hk => by rw [hr, getLsbD_bclr _ _ _ hk], hc, hf⟩
  · obtain ⟨t, hx, hg, hr, hc, hf⟩ := exec_maskByte (i := .bset mm m) hi hq rfl (four_encBit _ mm hm) fun _ _ => rfl
    exact ⟨t, hx, hg, fun k _ => by rw [hr, getLsbD_bset], hc, hf⟩
  · obtain ⟨t, hx, hg, hr, hc, hf⟩ :=
      exec_maskWord (i := .bclrw mmmm m) hi hq rfl (six_encBitW _ mmmm hm) fun _ _ => rfl
    exact ⟨t, hx, hg, fun k hk => by rw [hr, getLsbD_bclr _ _ _ hk], hc, hf⟩
  · obtain ⟨t, hx, hg, hr, hc, hf⟩ :=
      exec_maskWord (i := .bsetw mmmm m) hi hq rfl (six_encBitW _ mmmm hm) fun _ _ => rfl
    exact ⟨t, hx, hg, fun k _ => by rw [hr, getLsbD_bset], hc, hf⟩

/-! ### Stores -/

theorem exec_store8 {i : Instr} {v : Byte} {m : MemOp} {s : State} (hi : s.Inv) (hq : s.Quiet)
    (hl : memLen m = BitVec.ofNat 20 i.length) (hx : exec i s = store8 v m s) :
    ∃ t, exec i s = .next t ∧ GoesOn i s t ∧ t.peek .data (ea m s) = v ∧ IsResult v t.ccr ∧
      Frame [.n, .z, .v] [ea m s] s t := by
  obtain ⟨t, hx, hg, hr, hc, hf⟩ := exec_storeByte_spec hi hq hx hl (FlagFrame.logic ..)
  exact ⟨t, hx, hg, hr, hc ▸ logic_isResult .., hf⟩

/-- The bytes of a word in memory. -/
theorem peek_of_peekWord {s : State} {a : Addr} {v : Word} (h : s.peekWord .data a = v) :
    s.peek .data a = hi v ∧ s.peek .data (a + 1) = lo v := by
  subst h
  exact ⟨(hi_append ..).symm, (lo_append ..).symm⟩

theorem exec_store16 {i : Instr} {v : Word} {m : MemOp} {s : State} (inv : s.Inv) (hq : s.Quiet)
    (hl : memLen m = BitVec.ofNat 20 i.length) (hx : exec i s = store16 v m s) :
    ∃ t, exec i s = .next t ∧ GoesOn i s t ∧ t.peek .data (ea m s) = hi v ∧ t.peek .data (ea m s + 1) = lo v ∧
      IsResult v t.ccr ∧ Frame [.n, .z, .v] (wordAt (ea m s)) s t := by
  obtain ⟨t, hx, hg, hr, hc, hf⟩ := exec_storeWord_spec inv hq hx hl (FlagFrame.logic ..)
  obtain ⟨high, low⟩ := peek_of_peekWord hr
  exact ⟨t, hx, hg, high, low, hc ▸ logic_isResult .., hf⟩

/-- Settles O34: two rows store a byte and six a word. -/
theorem stores : Obligations.Stores := by
  unfold Obligations.Stores
  simp only [List.forall_mem_cons]
  exact ⟨⟨fun m _ hi hq => exec_store8 hi hq (memLen_encMem _ _ m) rfl,
      fun m _ hi hq => exec_store8 hi hq (memLen_encMem _ _ m) rfl, List.forall_mem_nil _⟩,
    fun m _ _ hi hq => exec_store16 hi hq (memLen_encMemD _ m) rfl,
    fun m _ _ hi hq => exec_store16 hi hq (memLen_encMemE _ m) rfl,
    fun m _ _ hi hq => exec_store16 hi hq (memLen_encMem _ _ m) rfl,
    fun m _ _ hi hq => exec_store16 hi hq (memLen_encMem _ _ m) rfl,
    fun m _ _ hi hq => exec_store16 hi hq (memLen_encMem _ _ m) rfl,
    fun m _ _ hi hq => exec_store16 hi hq (memLen_encMem _ _ m) rfl, List.forall_mem_nil _⟩

/-! ### Long words and moves -/

/-- The words at an address and 2 above it do not meet, across the end of the space too. -/
theorem wordAt_add_two (a : Addr) : a ∉ wordAt (a + 2) ∧ a + 1 ∉ wordAt (a + 2) := by
  simp only [wordAt, List.mem_cons, List.not_mem_nil, or_false, not_or]
  bv_omega

/-- LDED on a quiet platform: E, then D, from the two words (40_data_movement.md R205). -/
theorem State.Quiet.exec_lded {s : State} (hq : s.Quiet) (hhll : Word) :
    exec (.lded hhll) s = .next ((setR16 .d (s.peekWord .data (ea (.ext hhll) s + 2))
      (setR16 .e (s.peekWord .data (ea (.ext hhll) s)) s)).advance 4) := by
  have h : exec (.lded hhll) s = execLded hhll s := rfl
  rw [h, execLded, hq.readWord]
  dsimp only
  rw [hq.readWord]
  rfl

theorem exec_lded_spec (hhll : Word) {s : State} (hq : s.Quiet) :
    ∃ t, exec (.lded hhll) s = .next t ∧ GoesOn (.lded hhll) s t ∧ t.e = s.peekWord .data (ea (.ext hhll) s) ∧
      t.d = s.peekWord .data (ea (.ext hhll) s + 2) ∧ Frame [.e, .a, .b] [] s t := by
  have w := ((Working.refl s).setR16 .e (s.peekWord .data (ea (.ext hhll) s))).setR16 .d
    (s.peekWord .data (ea (.ext hhll) s + 2))
  exact ⟨_, hq.exec_lded hhll, w.goesOn_advance rfl, rfl, hi_append_lo _, w.frame.then_advance rfl 4⟩

/-- The whole effect of STED (40_data_movement.md R212). -/
theorem exec_sted_spec (hhll : Word) {s : State} (hi : s.Inv) (hq : s.Quiet) :
    ∃ t, exec (.sted hhll) s = .next t ∧ GoesOn (.sted hhll) s t ∧ t.peekWord .data (ea (.ext hhll) s) = s.e ∧
      t.peekWord .data (ea (.ext hhll) s + 2) = s.d ∧
      Frame [] (wordAt (ea (.ext hhll) s) ++ wordAt (ea (.ext hhll) s + 2)) s t := by
  generalize ha : ea (.ext hhll) s = a
  have hx : exec (.sted hhll) s = .next ((pokeWord (a + 2) s.d (pokeWord a s.e s)).advance 4) := by
    have h : exec (.sted hhll) s = execSted hhll s := rfl
    rw [h, execSted, ha, hq.writeWord, (hq.pokeWord _ _).writeWord]
  refine ⟨_, hx, ?_, ?_, ?_, ?_⟩
  · rw [GoesOn, State.advance_pc, pokeWord_pc, pokeWord_pc]
    rfl
  · obtain ⟨h0, h1⟩ := wordAt_add_two a
    rw [State.peekWord_advance, State.peekWord_pokeWord_ne _ _ h0 h1, State.peekWord_pokeWord hi.mem_wf]
  · rw [State.peekWord_advance, State.peekWord_pokeWord (State.wf_pokeWord hi.mem_wf _ _)]
  · exact ((Frame.pokeWord a s.e s).trans (pokeWord_platform ..) (Frame.pokeWord (a + 2) s.d _)).then_advance
      ((pokeWord_platform ..).trans (pokeWord_platform ..)) 4

/-- Settles O35. -/
theorem longLoadStore : Obligations.LongLoadStore := fun hhll _ hi hq =>
  ⟨exec_lded_spec hhll hq, exec_sted_spec hhll hi hq⟩

/-- XK : IX after a move, for a signed offset on 20 bits (30_encoding.md R170). -/
def MovesPointer (op : MovOp) (s t : State) : Prop :=
  match op with
  | .ixpToExt ff _ | .extToIxp ff _ => ((t.pointer .x).toNat : Int) = ((s.pointer .x).toNat + ff.toInt) % 2 ^ 20
  | .extToExt _ _ => t.pointer .x = s.pointer .x

/-- Writing an index register with its extension field changes those two. -/
theorem Frame.setPointer (r : Idx) (v : Addr) (s : State) : Frame (pointerLocs r) [] s (s.setPointer r v) := by
  cases r <;> exact Frame.of_parts rfl rfl rfl fun l h => by
    cases l <;> first | exact absurd (by decide) h | exact rfl | exact ⟨rfl, rfl⟩

/-- The end of a move changes XK : IX alone (30_encoding.md R170). -/
theorem movPost_spec (op : MovOp) {s t : State} (h : t.pointer .x = s.pointer .x) :
    MovesPointer op s (movPost op (s.pointer .x) t) ∧ Frame [.ix, .xk] [] t (movPost op (s.pointer .x) t) ∧
      (movPost op (s.pointer .x) t).pc = t.pc ∧ (movPost op (s.pointer .x) t).ccr = t.ccr ∧
      ∀ a, (movPost op (s.pointer .x) t).peek .data a = t.peek .data a := by
  cases op with
  | ixpToExt ff hhll | extToIxp ff hhll =>
    refine ⟨?_, Frame.setPointer .x _ t, rfl, rfl, fun _ => rfl⟩
    rw [movPost, MovesPointer, State.pointer_setPointer]
    exact toNat_add_sext20b ..
  | extToExt src dst => exact ⟨h, (Frame.refl t).mono (by simp) (by simp), rfl, rfl, fun _ => rfl⟩

theorem movLen_encMov (fromOp toOp extOp : Byte) (op : MovOp) :
    movLen op = BitVec.ofNat 20 (2 * (encMov fromOp toOp extOp op).length) := by
  cases op <;> rfl

/-- The end of a move after its store came to `u`: flags, XK : IX, and on with the next instruction. -/
theorem Working.move {i : Instr} {op : MovOp} {bytes : List Addr} {s u : State} {w : Nat} {v : BitVec w}
    (h : Working [] bytes s u) (hx : u.pointer .x = s.pointer .x) (hl : movLen op = BitVec.ofNat 20 i.length) :
    let t := (movPost op (s.pointer .x) (u.setFlags (s.ccr.logic v))).advance (movLen op)
    GoesOn i s t ∧ (∀ a, t.peek .data a = u.peek .data a) ∧ IsResult v t.ccr ∧ MovesPointer op s t ∧
      Frame [.n, .z, .v, .ix, .xk] bytes s t := by
  have flags := h.frame.trans h.platform ((FlagFrame.logic v s.ccr).frame u h.ccr)
  rw [List.append_nil] at flags
  obtain ⟨moved, frame, pc, ccr, peek⟩ := movPost_spec op (t := u.setFlags (s.ccr.logic v)) hx
  have all := (flags.trans h.platform frame).trans (frame.parts .platform (by decide) |>.trans h.platform)
    (Frame.advance (movLen op) _)
  simp only [List.append_nil] at all
  refine ⟨?_, fun a => peek a, ?_, ?_, all⟩
  · rw [GoesOn, State.advance_pc, pc, State.setFlags_pc, h.pc, hl]
  · rw [State.advance_ccr, ccr]
    exact logic_isResult ..
  · exact moved

theorem exec_movb_spec (op : MovOp) {s : State} (hi : s.Inv) (hq : s.Quiet) :
    ∃ t, exec (.movb op) s = .next t ∧ GoesOn (.movb op) s t ∧
      t.peek .data (movDst op s) = s.peek .data (movSrc op s) ∧ IsResult (s.peek .data (movSrc op s)) t.ccr ∧
      MovesPointer op s t ∧ Frame [.n, .z, .v, .ix, .xk] [movDst op s] s t := by
  obtain ⟨hg, hp, hc, hm, hf⟩ := (Working.writeByte hq (movDst op s) (s.peek .data (movSrc op s))).move
    (i := .movb op) (v := s.peek .data (movSrc op s)) (by rw [hq.writeByte]; rfl) (movLen_encMov _ _ _ op)
  refine ⟨_, ?_, hg, ?_, hc, hm, hf⟩
  · have h : exec (.movb op) s = execMovb op s := rfl
    rw [h, execMovb, hq.readByte]
  · rw [hp, hq.writeByte, State.peek_poke_self hi.mem_wf]

theorem exec_movw_spec (op : MovOp) {s : State} (hi : s.Inv) (hq : s.Quiet) :
    ∃ t, exec (.movw op) s = .next t ∧ GoesOn (.movw op) s t ∧
      t.peekWord .data (movDst op s) = s.peekWord .data (movSrc op s) ∧
      IsResult (s.peekWord .data (movSrc op s)) t.ccr ∧ MovesPointer op s t ∧
      Frame [.n, .z, .v, .ix, .xk] (wordAt (movDst op s)) s t := by
  obtain ⟨hg, hp, hc, hm, hf⟩ := (Working.writeWord hq (movDst op s) (s.peekWord .data (movSrc op s))).move
    (i := .movw op) (v := s.peekWord .data (movSrc op s))
    (by rw [hq.writeWord, State.pointer, State.pointer, State.ext, State.index, pokeWord_ix, pokeWord_xk]; rfl)
    (movLen_encMov _ _ _ op)
  refine ⟨_, ?_, hg, ?_, hc, hm, hf⟩
  · have h : exec (.movw op) s = execMovw op s := rfl
    rw [h, execMovw, hq.readWord]
  · rw [State.peekWord, hp, hp, hq.writeWord, ← State.peekWord, State.peekWord_pokeWord hi.mem_wf]

/-- Settles O36: MOVB and MOVW, the pointer moved as the form says. -/
theorem moves : Obligations.Moves := fun op s hi hq => by
  obtain ⟨t, tx, tg, tp, tc, tm, tf⟩ := exec_movb_spec op hi hq
  obtain ⟨u, ux, ug, up, uc, um, uf⟩ := exec_movw_spec op hi hq
  cases op with
  | ixpToExt ff hhll | extToIxp ff hhll | extToExt src dst =>
    exact ⟨⟨t, tx, tg, tp, tc, tm, tf⟩, u, ux, ug, up, uc, um, uf⟩

end Sys2Proof.Machine
end

section
/-!
PROOFS. Effective addresses as integers (30_encoding.md R163 to R168), and the carries of the arithmetic primitives as
the Boolean equations of Table 6-35 (41_add_sub_compare.md R240).
-/

namespace Sys2Proof.Machine

/-! ### Effective addresses -/

theorem State.toNat_pointer (r : Idx) (s : State) :
    (s.pointer r).toNat = (s.ext r).toNat * 65536 + (s.index r).toNat := toNat_bank_offset ..

/-- A signed 16-bit offset from an index register with its extension field. -/
theorem toNat_pointer_add_sext20 (r : Idx) (w : Word) (s : State) :
    ((s.pointer r + sext20 w).toNat : Int) =
      ((s.ext r).toNat * 65536 + (s.index r).toNat + w.toInt : Int) % 2 ^ 20 := by
  rw [toNat_add_sext20, State.toNat_pointer]
  push_cast
  rfl

/-- Settles O19: each mode is a sum on 20 bits, or a bank beside an offset. -/
theorem effectiveAddress : Obligations.EffectiveAddress := fun s r => by
  refine ⟨fun ff => ?_, fun gggg => toNat_pointer_add_sext20 r gggg s, fun hhll => toNat_bank_offset ..,
    toNat_pointer_add_sext20 r s.e s, fun target => rfl, fun off => ?_⟩
  · rw [ea, toNat_add_zext20b, State.toNat_pointer]
    push_cast
    rfl
  · rw [jmpTarget, BitVec.toNat_add, toNat_zext20]

/-! ### Carries -/

/-- A sum of two numbers of `w` bits and a carry, on `w` bits. -/
theorem mod_two_pow_of_lt {w a : Nat} (h : a < 2 * 2 ^ w) : a % 2 ^ w = if 2 ^ w ≤ a then a - 2 ^ w else a := by
  split
  · rw [Nat.mod_eq_sub_mod (by omega), Nat.mod_eq_of_lt (by omega)]
  · rw [Nat.mod_eq_of_lt (by omega)]

/-- The carry out of a sum from the sign bits of the operands and of the result. -/
theorem addW_carry {w : Nat} (h : 0 < w) (x y : BitVec w) (cin : Bool) (c : Ccr) :
    (addW x y cin c).2.c = ((x.msb && y.msb) || (y.msb && !(addW x y cin c).1.msb) ||
      (!(addW x y cin c).1.msb && x.msb)) := by
  have h2 := two_pow_pred h
  have hx := x.isLt
  have hy := y.isLt
  have hc : cin.toNat ≤ 1 := by cases cin <;> simp
  have hr : (addW x y cin c).1.toNat = (x.toNat + y.toNat + cin.toNat) % 2 ^ w := (addW_isSum h x y cin c).1
  have hb : (addW x y cin c).2.c = decide (2 ^ w ≤ x.toNat + y.toNat + cin.toNat) := rfl
  rw [mod_two_pow_of_lt (by omega)] at hr
  rw [hb, Bool.eq_iff_iff]
  simp only [msb_eq_le, Bool.and_eq_true, Bool.or_eq_true, Bool.not_eq_true', decide_eq_true_eq,
    decide_eq_false_iff_not]
  generalize (addW x y cin c).1.toNat = r at *
  generalize 2 ^ (w - 1) = P at *
  split at hr <;> omega

/-- The overflow of a sum from the sign bits of the operands and of the result. -/
theorem addW_overflow {w : Nat} (x y : BitVec w) (cin : Bool) (c : Ccr) :
    (addW x y cin c).2.v = ((x.msb && y.msb && !(addW x y cin c).1.msb) ||
      (!x.msb && !y.msb && (addW x y cin c).1.msb)) := by
  simp only [addW]
  cases x.msb <;> cases y.msb <;> simp

/-- The borrow of a difference from the sign bits of the operands and of the result. -/
theorem subW_borrow {w : Nat} (h : 0 < w) (x y : BitVec w) (cin : Bool) (c : Ccr) :
    (subW x y cin c).2.c = ((!x.msb && y.msb) || (y.msb && (subW x y cin c).1.msb) ||
      ((subW x y cin c).1.msb && !x.msb)) := by
  obtain ⟨hr, -, -, hb⟩ := subW_isDifference h x y cin c
  have h2 := two_pow_pred h
  have hx := x.isLt
  have hy := y.isLt
  have hc : cin.toNat ≤ 1 := by cases cin <;> simp
  have hm : ((x.toNat : Int) - y.toNat - cin.toNat) % 2 ^ w =
      if (x.toNat : Int) - y.toNat - cin.toNat < 0 then (x.toNat : Int) - y.toNat - cin.toNat + (2 ^ w : Nat)
      else (x.toNat : Int) - y.toNat - cin.toNat := by
    have e : ((2 : Int) ^ w) = ((2 ^ w : Nat) : Int) := by push_cast; rfl
    rw [e]
    split
    · rw [← Int.add_emod_right, Int.emod_eq_of_lt (by omega) (by omega)]
    · rw [Int.emod_eq_of_lt (by omega) (by omega)]
  rw [hm] at hr
  rw [hb, Bool.eq_iff_iff]
  simp only [msb_eq_le, Bool.and_eq_true, Bool.or_eq_true, Bool.not_eq_true', decide_eq_true_eq,
    decide_eq_false_iff_not]
  generalize (subW x y cin c).1.toNat = r at *
  generalize 2 ^ (w - 1) = P at *
  split at hr <;> omega

/-- The overflow of a difference from the sign bits of the operands and of the result. -/
theorem subW_overflow {w : Nat} (x y : BitVec w) (cin : Bool) (c : Ccr) :
    (subW x y cin c).2.v = ((x.msb && !y.msb && !(subW x y cin c).1.msb) ||
      (!x.msb && y.msb && (subW x y cin c).1.msb)) := by
  simp only [subW]
  cases x.msb <;> cases y.msb <;> simp

/-- The half carry is the carry out of the low nibbles, so the same equation holds at bit 3. -/
theorem halfCarry_eq (x y : Byte) (cin : Bool) (c : Ccr) :
    halfCarry x y cin = ((x.getLsbD 3 && y.getLsbD 3) || (y.getLsbD 3 && !(add8 x y cin c).1.getLsbD 3) ||
      (!(add8 x y cin c).1.getLsbD 3 && x.getLsbD 3)) := by
  have bit (v : Byte) : v.getLsbD 3 = decide (8 ≤ v.toNat % 16) := by
    rw [BitVec.getLsbD, Nat.testBit_eq_decide_div_mod_eq, decide_eq_decide]
    omega
  have hr : (add8 x y cin c).1.toNat % 16 = (x.toNat % 16 + y.toNat % 16 + cin.toNat) % 16 := by
    simp only [add8, addW, exactSum, BitVec.toNat_ofNat]
    omega
  have hc : cin.toNat ≤ 1 := by cases cin <;> simp
  rw [Bool.eq_iff_iff]
  simp only [halfCarry, bit, hr, Bool.and_eq_true, Bool.or_eq_true, Bool.not_eq_true', decide_eq_true_eq,
    decide_eq_false_iff_not]
  omega

/-- Settles O20: the sums and differences by value, and their flags by the sign bits. -/
theorem flagEquations : Obligations.FlagEquations :=
  ⟨fun x m cin c => ⟨(addW_isSum (by decide) x m cin c).1, rfl, rfl, rfl, halfCarry_eq x m cin c,
      addW_overflow x m cin c, rfl, addW_carry (by decide) x m cin c⟩,
    fun x m cin c => ⟨(subW_isDifference (by decide) x m cin c).1, rfl, rfl, rfl, subW_overflow x m cin c,
      (subW_isDifference (by decide) x m cin c).2.2.2, subW_borrow (by decide) x m cin c⟩,
    fun x m cin c => ⟨(addW_isSum (by decide) x m cin c).1, rfl, rfl, rfl, addW_overflow x m cin c, rfl,
      addW_carry (by decide) x m cin c⟩,
    fun x m cin c => ⟨(subW_isDifference (by decide) x m cin c).1, rfl, rfl, rfl, subW_overflow x m cin c,
      (subW_isDifference (by decide) x m cin c).2.2.2, subW_borrow (by decide) x m cin c⟩⟩

end Sys2Proof.Machine
end

section
/-!
PROOFS. Program control (44_program_control.md): branches, jumps, calls and returns, and stop, wait, background and null
operation (48_stop_wait_misc.md).
-/

namespace Sys2Proof.Machine

/-! ### Branches -/

/-- Where a branch of `i` goes: to its target where it is taken, else on (44_program_control.md R400). -/
theorem branchIf_spec {i : Instr} {len : Addr} (hl : len = BitVec.ofNat 20 i.length) (taken : Bool) (off : Addr)
    (s : State) :
    Frame [] [] s (branchIf taken off len s) ∧
      if taken then GoesTo (s.pc.toNat + 6 + off.toInt) (branchIf taken off len s)
      else GoesOn i s (branchIf taken off len s) := by
  cases taken with
  | true =>
    refine ⟨Frame.jumpTo (s.vpc + off) s, goesTo_jumpTo ?_ s⟩
    rw [State.vpc, toNat_add_signed, BitVec.toNat_add, show (6 : Addr).toNat = 6 from rfl]
    omega
  | false => exact ⟨Frame.advance len s, by rw [hl]; rfl⟩

theorem exec_shortBranch {i : Instr} {cond : Ccr → Bool} {rr : Byte} {s : State} {taken : Bool}
    (hx : exec i s = shortBranch cond rr s) (hl : 2 = BitVec.ofNat 20 i.length) (hc : cond s.ccr = taken) :
    ∃ t, exec i s = .next t ∧ Frame [] [] s t ∧
      if taken then GoesTo (s.pc.toNat + 6 + rr.toInt) t else GoesOn i s t := by
  subst hc
  have spec := branchIf_spec hl (cond s.ccr) (sext20b rr) s
  rw [toInt_sext20b] at spec
  exact ⟨_, hx, spec⟩

theorem exec_longBranch {i : Instr} {cond : Ccr → Bool} {rrrr : Word} {s : State} {taken : Bool}
    (hx : exec i s = longBranch cond rrrr s) (hl : 4 = BitVec.ofNat 20 i.length) (hc : cond s.ccr = taken) :
    ∃ t, exec i s = .next t ∧ Frame [] [] s t ∧
      if taken then GoesTo (s.pc.toNat + 6 + rrrr.toInt) t else GoesOn i s t := by
  subst hc
  have spec := branchIf_spec hl (cond s.ccr) (sext20 rrrr) s
  rw [toInt_sext20] at spec
  exact ⟨_, hx, spec⟩

theorem condHi_eq (c : Ccr) : condHi c = (!c.c && !c.z) := Bool.not_or ..

theorem condGe_eq (c : Ccr) : condGe c = (c.n == c.v) := by
  rw [condGe]
  cases c.n <;> cases c.v <;> rfl

theorem condLt_eq (c : Ccr) : condLt c = (c.n != c.v) := rfl

theorem condGt_eq (c : Ccr) : condGt c = (!c.z && c.n == c.v) :=
  (Bool.not_or ..).trans (congrArg (!c.z && ·) (condGe_eq c))

theorem condLe_eq (c : Ccr) : condLe c = (c.z || c.n != c.v) := congrArg (c.z || ·) (condLt_eq c)

/-- Settles O37: each row is a branch on its condition. -/
theorem branches : Obligations.Branches := by
  unfold Obligations.Branches
  simp only [List.forall_mem_cons]
  exact ⟨⟨fun _ _ => exec_shortBranch (taken := true) rfl rfl rfl,
      fun _ _ => exec_shortBranch (taken := false) rfl rfl rfl,
      fun _ _ => exec_shortBranch rfl rfl (condHi_eq _), fun _ _ => exec_shortBranch rfl rfl rfl,
      fun _ _ => exec_shortBranch rfl rfl rfl, fun _ _ => exec_shortBranch rfl rfl rfl,
      fun _ _ => exec_shortBranch rfl rfl rfl, fun _ _ => exec_shortBranch rfl rfl rfl,
      fun _ _ => exec_shortBranch rfl rfl rfl, fun _ _ => exec_shortBranch rfl rfl rfl,
      fun _ _ => exec_shortBranch rfl rfl rfl, fun _ _ => exec_shortBranch rfl rfl rfl,
      fun _ _ => exec_shortBranch rfl rfl (condGe_eq _), fun _ _ => exec_shortBranch rfl rfl (condLt_eq _),
      fun _ _ => exec_shortBranch rfl rfl (condGt_eq _), fun _ _ => exec_shortBranch rfl rfl (condLe_eq _),
      List.forall_mem_nil _⟩,
    fun _ _ => exec_longBranch (taken := true) rfl rfl rfl, fun _ _ => exec_longBranch (taken := false) rfl rfl rfl,
    fun _ _ => exec_longBranch rfl rfl (condHi_eq _), fun _ _ => exec_longBranch rfl rfl rfl,
    fun _ _ => exec_longBranch rfl rfl rfl, fun _ _ => exec_longBranch rfl rfl rfl,
    fun _ _ => exec_longBranch rfl rfl rfl, fun _ _ => exec_longBranch rfl rfl rfl,
    fun _ _ => exec_longBranch rfl rfl rfl, fun _ _ => exec_longBranch rfl rfl rfl,
    fun _ _ => exec_longBranch rfl rfl rfl, fun _ _ => exec_longBranch rfl rfl rfl,
    fun _ _ => exec_longBranch rfl rfl (condGe_eq _), fun _ _ => exec_longBranch rfl rfl (condLt_eq _),
    fun _ _ => exec_longBranch rfl rfl (condGt_eq _), fun _ _ => exec_longBranch rfl rfl (condLe_eq _),
    fun _ _ => exec_longBranch rfl rfl rfl, fun _ _ => exec_longBranch rfl rfl rfl, List.forall_mem_nil _⟩

/-! ### Bit-condition branches -/

/-- The offset of a bit-condition branch as an integer. -/
def brOffset (op : BrOp) : Int :=
  match op with
  | .ind8 _ _ rr => rr.toInt
  | .ind16 _ _ rrrr => rrrr.toInt
  | .ext _ rrrr => rrrr.toInt

theorem toInt_brOff (op : BrOp) : (brOff op).toInt = brOffset op := by
  cases op with
  | ind8 r ff rr => exact toInt_sext20b rr
  | ind16 r gggg rrrr => exact toInt_sext20 rrrr
  | ext hhll rrrr => exact toInt_sext20 rrrr

theorem brLen_encBr (base8 base mm : Byte) (op : BrOp) :
    brLen op = BitVec.ofNat 20 (2 * (encBr base8 base mm op).length) := by
  cases op <;> rfl

/-- No bit of `v` stands under the mask. -/
theorem and_beq_zero_iff (v mask : Byte) :
    (v &&& mask == 0#8) = true ↔ ∀ k, k < 8 → mask.getLsbD k = true → v.getLsbD k = false := by
  rw [beq_iff_eq]
  constructor
  · intro h k _ hk
    have bit : (v &&& mask).getLsbD k = false := by rw [h]; exact BitVec.getLsbD_zero
    simpa [hk] using bit
  · intro h
    refine BitVec.eq_of_getLsbD_eq fun k hk => ?_
    have := h k hk
    cases e : mask.getLsbD k <;> simp_all

/-- A branch on the masked bits of `v`: both ways. -/
theorem branchOnBits_spec {i : Instr} {op : BrOp} {s : State} (hl : brLen op = BitVec.ofNat 20 i.length) (v mask : Byte)
    (hx : exec i s = .next (branchIf (v &&& mask == 0#8) (brOff op) (brLen op) s)) :
    ∃ t, exec i s = .next t ∧ Frame [] [] s t ∧
      ((∀ k, k < 8 → mask.getLsbD k = true → v.getLsbD k = false) → GoesTo (s.pc.toNat + 6 + brOffset op) t) ∧
      ((∃ k, k < 8 ∧ mask.getLsbD k = true ∧ v.getLsbD k = true) → GoesOn i s t) := by
  obtain ⟨hf, hgo⟩ := branchIf_spec hl (v &&& mask == 0#8) (brOff op) s
  rw [toInt_brOff] at hgo
  refine ⟨_, hx, hf, fun all => ?_, fun ⟨k, hk, hm, hv⟩ => ?_⟩
  · rwa [if_pos ((and_beq_zero_iff v mask).mpr all)] at hgo
  · rwa [if_neg fun h => by simp [(and_beq_zero_iff v mask).mp h k hk hm] at hv] at hgo

theorem exec_brclr_spec (mm : Byte) (op : BrOp) {s : State} (hq : s.Quiet) :
    ∃ t, exec (.brclr mm op) s = .next t ∧ Frame [] [] s t ∧
      ((∀ k, k < 8 → mm.getLsbD k = true → (s.peek .data (brEa op s)).getLsbD k = false) →
        GoesTo (s.pc.toNat + 6 + brOffset op) t) ∧
      ((∃ k, k < 8 ∧ mm.getLsbD k = true ∧ (s.peek .data (brEa op s)).getLsbD k = true) →
        GoesOn (.brclr mm op) s t) := by
  refine branchOnBits_spec (brLen_encBr _ _ mm op) (s.peek .data (brEa op s)) mm ?_
  have h : exec (.brclr mm op) s = execBrclr mm op s := rfl
  rw [h, execBrclr, hq.readByte]

theorem exec_brset_spec (mm : Byte) (op : BrOp) {s : State} (hq : s.Quiet) :
    ∃ t, exec (.brset mm op) s = .next t ∧ Frame [] [] s t ∧
      ((∀ k, k < 8 → mm.getLsbD k = true → (s.peek .data (brEa op s)).getLsbD k = true) →
        GoesTo (s.pc.toNat + 6 + brOffset op) t) ∧
      ((∃ k, k < 8 ∧ mm.getLsbD k = true ∧ (s.peek .data (brEa op s)).getLsbD k = false) →
        GoesOn (.brset mm op) s t) := by
  have hx : exec (.brset mm op) s =
      .next (branchIf (~~~(s.peek .data (brEa op s)) &&& mm == 0#8) (brOff op) (brLen op) s) := by
    have h : exec (.brset mm op) s = execBrset mm op s := rfl
    rw [h, execBrset, hq.readByte]
  obtain ⟨t, ht, hf, taken, on⟩ := branchOnBits_spec (brLen_encBr _ _ mm op) (~~~(s.peek .data (brEa op s))) mm hx
  refine ⟨t, ht, hf, fun all => taken fun k hk hm => ?_, fun ⟨k, hk, hm, hv⟩ => on ⟨k, hk, hm, ?_⟩⟩
  · rw [BitVec.getLsbD_not, all k hk hm, Bool.not_true, Bool.and_false]
  · rw [BitVec.getLsbD_not, hv, decide_eq_true hk, Bool.not_false, Bool.and_true]

/-- Settles O38: the operand forms of BRCLR and BRSET, each with its offset and its byte. -/
theorem bitBranches : Obligations.BitBranches := fun mm op s hq => by
  have clr := exec_brclr_spec mm op hq
  have set := exec_brset_spec mm op hq
  cases op with
  | ind8 r ff rr | ind16 r gggg rrrr | ext hhll rrrr => exact ⟨clr, set⟩

/-! ### Jumps and calls -/

theorem goesTo_jumpTo_self (a : Addr) (s : State) : GoesTo a.toNat (s.jumpTo a) :=
  goesTo_jumpTo (by have := a.isLt; omega) s

/-- A call: the frame of `ret` stacked, then a jump (44_program_control.md R438). -/
theorem State.Quiet.call_spec {s : State} (hq : s.Quiet) (hi : s.Inv) (ret target : Addr) :
    FrameStacked ret s ((s.pushFrame ret).jumpTo target) ∧
      Frame [.sp, .sk] (frameBytes s) s ((s.pushFrame ret).jumpTo target) := by
  obtain ⟨stacked, frame, -, hp, -⟩ := hq.pushFrame_spec hi.mem_wf ret
  have jumped := frame.trans hp (Frame.jumpTo target _)
  simp only [List.append_nil] at jumped
  exact ⟨stacked, jumped⟩

theorem exec_jsr_spec (op : JmpOp) {s : State} (hi : s.Inv) (hq : s.Quiet) :
    ∃ t, exec (.jsr op) s = .next t ∧ GoesTo (jmpTarget op s).toNat t ∧ FrameStacked (s.pc + 6) s t ∧
      Frame [.sp, .sk] (frameBytes s) s t :=
  ⟨_, rfl, goesTo_jumpTo_self _ _, hq.call_spec hi (s.pc + 6) (jmpTarget op s)⟩

theorem exec_lbsr_spec (rrrr : Word) {s : State} (hi : s.Inv) (hq : s.Quiet) :
    ∃ t, exec (.lbsr rrrr) s = .next t ∧ GoesTo (s.pc.toNat + 6 + rrrr.toInt) t ∧ FrameStacked (s.pc + 6) s t ∧
      Frame [.sp, .sk] (frameBytes s) s t := by
  refine ⟨_, rfl, goesTo_jumpTo ?_ _, hq.call_spec hi (s.pc + 6) (s.vpc + sext20 rrrr)⟩
  rw [State.vpc, toNat_add_sext20, BitVec.toNat_add, show (6 : Addr).toNat = 6 from rfl]
  omega

theorem exec_bsr_spec (rr : Byte) {s : State} (hi : s.Inv) (hq : s.Quiet) :
    ∃ t, exec (.bsr rr) s = .next t ∧
      GoesTo (s.pc.toNat + (if s.platform.bsrBase4 then 4 else 6) + rr.toInt) t ∧ FrameStacked (s.pc + 4) s t ∧
      Frame [.sp, .sk] (frameBytes s) s t := by
  refine ⟨_, rfl, goesTo_jumpTo ?_ _,
    hq.call_spec hi (s.pc + 4) ((if s.platform.bsrBase4 then s.pc + 4 else s.pc + 6) + sext20b rr)⟩
  rw [toNat_add_sext20b]
  cases s.platform.bsrBase4 <;> simp [BitVec.toNat_add]

/-- Settles O39. -/
theorem jumpsAndCalls : Obligations.JumpsAndCalls :=
  ⟨fun _ s => ⟨_, rfl, goesTo_jumpTo_self _ _, Frame.jumpTo _ s⟩, fun op _ hi hq => exec_jsr_spec op hi hq,
    fun rrrr _ hi hq => exec_lbsr_spec rrrr hi hq, fun rr _ hi hq => exec_bsr_spec rr hi hq⟩

/-! ### Returns -/

/-- A pulled PK nibble and PC word less `d`, as a number. -/
theorem toNat_pulled_sub (w1 w2 : Word) {d : Addr} (hd : 0 < d.toNat) :
    (((w1.extractLsb' 0 4 ++ w2 : Addr) - d).toNat : Int) =
      ((w1.toNat % 16 * 65536 + w2.toNat : Int) - d.toNat) % 2 ^ 20 := by
  have := d.isLt
  have := w2.isLt
  rw [BitVec.toNat_sub, toNat_bank_offset, BitVec.extractLsb'_toNat, Nat.shiftRight_zero]
  omega

/-- A request becomes pending where IP falls from 7 with IRQ7 asserted (60_exceptions.md R672). -/
theorem State.writeCcr_irq7Pending (c : Ccr) (s : State) :
    (s.writeCcr c).hid.irq7Pending =
      (s.hid.irq7Pending || (decide (s.ccr.ip = 7#3 ∧ c.ip ≠ 7#3) && s.pins.irq.getLsbD 7)) := by
  have e : (s.ccr.ip == 7#3 && !(c.ip == 7#3)) = decide (s.ccr.ip = 7#3 ∧ c.ip ≠ 7#3) := by
    rw [Bool.eq_iff_iff]
    simp
  rw [← e]
  rfl

theorem Frame.writeCcr (c : Ccr) (s : State) : Frame (.irq7Pending :: ccrLocs) [] s (s.writeCcr c) :=
  Frame.of_parts rfl rfl rfl fun l h => by
    cases l <;> first | exact absurd (by decide) h | exact rfl | exact ⟨rfl, rfl⟩

theorem exec_rts_spec {s : State} (hq : s.Quiet) :
    ∃ t, exec .rts s = .next t ∧
      GoesTo ((s.peekWord .data (s.skSp + 2)).toNat % 16 * 65536 + (s.peekWord .data (s.skSp + 4)).toNat - 2) t ∧
      t.skSp = s.skSp + 4 ∧ Frame [.sp, .sk] [] s t := by
  have hx : exec .rts s = .next s.returnFromSubroutine := rfl
  rw [hq.returnFromSubroutine] at hx
  refine ⟨_, hx, goesTo_jumpTo (toNat_pulled_sub _ _ (by decide)) _, ?_, ?_⟩
  · rw [State.skSp_jumpTo, State.skSp_setSkSp]
  · exact (Frame.setSkSp (s.skSp + 4) s).trans rfl (Frame.jumpTo _ _)

theorem exec_rti_spec {s : State} (hq : s.Quiet) :
    ∃ t, exec .rti s = .next t ∧
      GoesTo ((s.peekWord .data (s.skSp + 2)).toNat % 16 * 65536 + (s.peekWord .data (s.skSp + 4)).toNat - 6) t ∧
      t.skSp = s.skSp + 4 ∧
      t.ccr.pack ((s.peekWord .data (s.skSp + 2)).extractLsb' 0 4) = s.peekWord .data (s.skSp + 2) ∧
      t.hid.irq7Pending =
        (s.hid.irq7Pending || (decide (s.ccr.ip = 7#3 ∧ t.ccr.ip ≠ 7#3) && s.pins.irq.getLsbD 7)) ∧
      Frame ([.sp, .sk, .irq7Pending] ++ ccrLocs) [] s t := by
  have hx : exec .rti s = .next s.returnFromException := rfl
  rw [hq.returnFromException] at hx
  refine ⟨_, hx, goesTo_jumpTo (toNat_pulled_sub _ _ (by decide)) _, ?_, Ccr.pack_unpack _,
    State.writeCcr_irq7Pending _ (s.setSkSp (s.skSp + 4)), ?_⟩
  · rw [State.skSp_jumpTo, State.skSp_writeCcr, State.skSp_setSkSp]
  · exact ((Frame.setSkSp (s.skSp + 4) s).trans rfl (Frame.writeCcr _ _)).trans rfl (Frame.jumpTo _ _)

/-- Settles O40. -/
theorem returns : Obligations.Returns := fun _ hq => ⟨exec_rts_spec hq, exec_rti_spec hq⟩

/-- Settles O41: SWI is the plain entry through vector 6. -/
theorem softwareInterrupt : Obligations.SoftwareInterrupt := fun s hi hq =>
  ⟨_, rfl, hq.takeException_plain hi.mem_wf .swi (.inr (.inl rfl)) (s.pc + 8)⟩

/-! ### A call and its return -/

theorem even20_of_even {a : Addr} (h : a.getLsbD 0 = false) : even20 a = a := by
  refine BitVec.eq_of_toNat_eq ?_
  rw [getLsbD_zero_parity, decide_eq_false_iff_not] at h
  rw [toNat_even20]
  omega

theorem even20_add_of_even {a d : Addr} (ha : a.getLsbD 0 = false) (hd : d.getLsbD 0 = false) :
    even20 (a + d) = a + d := by
  refine even20_of_even ?_
  rw [getLsbD_zero_parity, decide_eq_false_iff_not] at *
  rw [BitVec.toNat_add]
  omega

/-- PK is the low nibble of the image of the CCR. -/
theorem Ccr.extractLsb'_pack_eq_pk (c : Ccr) (pk : Nibble) : (c.pack pk).extractLsb' 0 4 = pk :=
  BitVec.extractLsb'_append_eq_right

/-- What a return finds where a frame stands: the words of the frame, at its own stack pointer. -/
theorem FrameStacked.pulled {ret : Addr} {s t u : State} (h : FrameStacked ret s t) (hs : u.skSp = t.skSp)
    (hm : u.mem = t.mem) :
    u.peekWord .data (u.skSp + 2) = s.ccr.pack (bank ret) ∧ u.peekWord .data (u.skSp + 4) = offset ret ∧
      u.skSp + 4 = s.skSp := by
  obtain ⟨sp, pcWord, ccrWord⟩ := h
  have peek (x : Addr) : u.peekWord .data x = t.peekWord .data x := by
    simp only [State.peekWord, State.peek, State.space, hm]
  have e2 : u.skSp + 2 = s.skSp - 2 := by rw [hs, sp]; bv_omega
  have e4 : u.skSp + 4 = s.skSp := by rw [hs, sp]; bv_omega
  exact ⟨by rw [peek, e2, ccrWord], by rw [peek, e4, pcWord], e4⟩

/-- RTS where the frame of a call stands resumes at the stacked address less 2 (44_program_control.md R442). -/
theorem FrameStacked.rts {ret : Addr} {s t u : State} (h : FrameStacked ret s t) (hs : u.skSp = t.skSp)
    (hm : u.mem = t.mem) (hq : u.Quiet) :
    ∃ v, exec .rts u = .next v ∧ v.pc = even20 (ret - 2) ∧ v.skSp = s.skSp ∧ v.ccr = u.ccr := by
  obtain ⟨w1, w2, sp⟩ := h.pulled hs hm
  have hx : exec .rts u = .next u.returnFromSubroutine := rfl
  rw [hq.returnFromSubroutine, w1, w2, sp, Ccr.extractLsb'_pack_eq_pk, bank_append_offset] at hx
  exact ⟨_, hx, rfl, State.skSp_setSkSp s.skSp u, rfl⟩

/-- RTI where the frame of an exception stands resumes at the stacked address less 6, with the flags stacked
(44_program_control.md R443). -/
theorem FrameStacked.rti {ret : Addr} {s t u : State} (h : FrameStacked ret s t) (hs : u.skSp = t.skSp)
    (hm : u.mem = t.mem) (hq : u.Quiet) :
    ∃ v, exec .rti u = .next v ∧ v.pc = even20 (ret - 6) ∧ v.skSp = s.skSp ∧ v.ccr = s.ccr := by
  obtain ⟨w1, w2, sp⟩ := h.pulled hs hm
  have hx : exec .rti u = .next u.returnFromException := rfl
  rw [hq.returnFromException, w1, w2, sp, Ccr.extractLsb'_pack_eq_pk, Ccr.unpack_pack, bank_append_offset] at hx
  exact ⟨_, hx, rfl, State.skSp_setSkSp s.skSp u, rfl⟩

/-- The frame a call stacks is that of the address after it plus 2 (44_program_control.md R438). -/
theorem call_stacks_next {i : Instr} {s t : State} (hi : s.Inv) (hq : s.Quiet)
    (hc : (∃ op, i = .jsr op) ∨ (∃ rrrr, i = .lbsr rrrr) ∨ ∃ rr, i = .bsr rr) (hx : exec i s = .next t) :
    ∃ ret, FrameStacked ret s t ∧ even20 (ret - 2) = s.pc + BitVec.ofNat 20 i.length := by
  have sub (n : Addr) : s.pc + (n + 2) - 2 = s.pc + n := by bv_omega
  obtain ⟨op, rfl⟩ | ⟨rrrr, rfl⟩ | ⟨rr, rfl⟩ := hc
  · obtain ⟨t', hx', -, stacked, -⟩ := exec_jsr_spec op hi hq
    obtain rfl : t' = t := by simpa [hx'] using hx
    refine ⟨_, stacked, (congrArg even20 (sub 4)).trans ((even20_add_of_even hi.pc_even rfl).trans ?_)⟩
    cases op <;> rfl
  · obtain ⟨t', hx', -, stacked, -⟩ := exec_lbsr_spec rrrr hi hq
    obtain rfl : t' = t := by simpa [hx'] using hx
    exact ⟨_, stacked, (congrArg even20 (sub 4)).trans (even20_add_of_even hi.pc_even rfl)⟩
  · obtain ⟨t', hx', -, stacked, -⟩ := exec_bsr_spec rr hi hq
    obtain rfl : t' = t := by simpa [hx'] using hx
    exact ⟨_, stacked, (congrArg even20 (sub 2)).trans (even20_add_of_even hi.pc_even rfl)⟩

/-- Settles O42. -/
theorem callReturn : Obligations.CallReturn := fun s t u hi hq hs hm uq => by
  refine ⟨fun i hc hx => ?_, fun hx => ?_⟩
  · obtain ⟨ret, stacked, next⟩ := call_stacks_next hi hq hc hx
    obtain ⟨v, vx, pc, sp, ccr⟩ := stacked.rts hs hm uq
    exact ⟨v, vx, pc.trans next, sp, ccr⟩
  · obtain ⟨t', hx', entered⟩ := softwareInterrupt s hi hq
    obtain rfl : t' = t := by simpa [hx'] using hx
    obtain ⟨stacked, -⟩ := entered
    obtain ⟨v, vx, pc, sp, ccr⟩ := stacked.rti hs hm uq
    have next : s.pc + 8 - 6 = s.pc + 2 := by bv_omega
    exact ⟨v, vx, pc.trans ((congrArg even20 next).trans (even20_add_of_even hi.pc_even rfl)), sp, ccr⟩

/-! ### Stop, wait, background, null -/

theorem Frame.stopped (s : State) (v : BitVec 3) (es : List Event) :
    Frame [.run, .stopMask, .events] [] s
      { s with run := .stopped, hid := { s.hid with stopMask := v }, events := es } :=
  Frame.of_parts rfl rfl rfl fun l h => by
    cases l <;> first | exact absurd (by decide) h | exact rfl | exact ⟨rfl, rfl⟩

theorem exec_lpstop_spec (s : State) :
    ∃ t, exec .lpstop s = .next t ∧ GoesOn .lpstop s t ∧
      if s.ccr.s then Frame [] [] s t
      else
        t.run = .stopped ∧ t.hid.stopMask = s.ccr.ip ∧ t.events = s.events ++ [.lpstopBroadcast s.ccr.ip] ∧
          Frame [.run, .stopMask, .events] [] s t := by
  have hx : exec .lpstop s = execLpstop s := rfl
  unfold execLpstop at hx
  cases h : s.ccr.s with
  | true =>
    rw [h] at hx
    exact ⟨_, hx, rfl, Frame.advance 2 s⟩
  | false =>
    rw [h] at hx
    exact ⟨_, hx, rfl, rfl, rfl, rfl, (Frame.stopped s _ _).then_advance rfl 2⟩

theorem exec_bgnd_enabled {s : State} (h : s.hid.bdmEnabled = true) :
    exec .bgnd s = .next ((s.setRun .background).advance 2) := if_pos h

theorem exec_bgnd_disabled {s : State} (h : s.hid.bdmEnabled = false) :
    exec .bgnd s = .next (s.takeException .illegal (s.pc + 8)) := if_neg (by simp [h])

/-- Settles O60. -/
theorem stopAndWait : Obligations.StopAndWait := fun s =>
  ⟨exec_lpstop_spec s, ⟨_, rfl, rfl, rfl, (Frame.setRun .waiting s).then_advance rfl 2⟩,
    fun h => ⟨_, exec_bgnd_enabled h, rfl, rfl, (Frame.setRun .background s).then_advance rfl 2⟩,
    fun h hi hq => ⟨_, exec_bgnd_disabled h,
      hq.takeException_plain hi.mem_wf .illegal (.inr (.inr (.inl rfl))) (s.pc + 8)⟩,
    ⟨_, rfl, rfl, Frame.advance 2 s⟩⟩

end Sys2Proof.Machine
end

section
/-!
PROOFS. Index additions, pointer transfers and the condition code instructions (45_indexing_extension.md,
46_stacking_ccr.md).
-/

namespace Sys2Proof.Machine

/-! ### Index additions -/

@[simp] theorem State.index_advance (r : Idx) (len : Addr) (s : State) : (s.advance len).index r = s.index r := by
  cases r <;> rfl

@[simp] theorem State.index_setFlags (r : Idx) (c : Ccr) (s : State) : (s.setFlags c).index r = s.index r := by
  cases r <;> rfl

@[simp] theorem State.pointer_advance (r : Idx) (len : Addr) (s : State) : (s.advance len).pointer r = s.pointer r := by
  cases r <;> rfl

@[simp] theorem State.pointer_setFlags (r : Idx) (c : Ccr) (s : State) : (s.setFlags c).pointer r = s.pointer r := by
  cases r <;> rfl

/-- The whole effect of a two-byte instruction that adds to an index register with its extension field. -/
theorem exec_addPointer {i : Instr} {r : Idx} {v : Addr} {x : Int} {s : State}
    (hx : exec i s = .next ((addPointer r v s).advance 2)) (hl : 2 = BitVec.ofNat 20 i.length)
    (hv : ((s.pointer r + v).toNat : Int) = ((s.pointer r).toNat + x) % 2 ^ 20) :
    ∃ t, exec i s = .next t ∧ GoesOn i s t ∧ ((t.pointer r).toNat : Int) = ((s.pointer r).toNat + x) % 2 ^ 20 ∧
      Frame (pointerLocs r) [] s t := by
  refine ⟨_, hx, ?_, ?_, (Frame.setPointer r _ s).then_advance ?_ 2⟩
  · rw [GoesOn, State.advance_pc, addPointer, State.setPointer_pc, hl]
  · rw [State.pointer_advance, addPointer, State.pointer_setPointer, hv]
  · exact State.setPointer_platform ..

/-- The immediate of AIX, AIY, AIZ and AIS as an integer. -/
def immInt (i : Imm) : Int :=
  match i with
  | .imm8 ii => ii.toInt
  | .imm16 jjkk => jjkk.toInt

theorem toInt_immValue (i : Imm) : (immValue i).toInt = immInt i := by
  cases i with
  | imm8 ii => exact toInt_sext20b ii
  | imm16 jjkk => exact toInt_sext20 jjkk

theorem immLen_encImm (op : Byte) (i : Imm) : immLen i = BitVec.ofNat 20 (2 * (encImm op i).length) := by
  cases i <;> rfl

theorem FlagFrame.z (c : Ccr) (z : Bool) : FlagFrame [.z] c { c with z := z } := by
  refine ⟨fun s hs => ?_⟩
  subst hs
  exact Frame.of_parts rfl rfl rfl fun l h => by
    cases l <;> first | exact absurd (by decide) h | exact rfl | exact ⟨rfl, rfl⟩

theorem Working.setPointer (r : Idx) (v : Addr) (s : State) : Working (pointerLocs r) [] s (s.setPointer r v) :=
  ⟨State.setPointer_pc .., State.setPointer_ccr .., State.setPointer_platform .., Frame.setPointer r v s⟩

/-- The whole effect of AIX, AIY and AIZ (45_indexing_extension.md R479 to R481). -/
theorem exec_addImmPointer {i : Instr} {r : Idx} {v : Imm} {s : State} (hx : exec i s = addImmPointer r v s)
    (hl : immLen v = BitVec.ofNat 20 i.length) :
    ∃ t, exec i s = .next t ∧ GoesOn i s t ∧
      ((t.pointer r).toNat : Int) = ((s.pointer r).toNat + immInt v) % 2 ^ 20 ∧
      t.ccr.z = decide ((t.index r).toNat = 0) ∧ Frame (.z :: pointerLocs r) [] s t := by
  have w := Working.setPointer r (s.pointer r + immValue v) s
  refine ⟨_, hx, w.goesOn _ hl, ?_, ?_, (w.finish (FlagFrame.z s.ccr _) (immLen v)).mono (fun l h => ?_) (by simp)⟩
  · rw [State.pointer_advance, State.pointer_setFlags, addPointer, State.pointer_setPointer, toNat_add_signed,
      toInt_immValue]
  · rw [State.index_advance, State.index_setFlags]
    exact beq_zero _
  · simp only [List.mem_append, List.mem_cons, List.not_mem_nil, or_false] at h ⊢
    exact h.symm

/-- The whole effect of AIS (46_stacking_ccr.md R540). -/
theorem exec_ais_spec (v : Imm) (s : State) :
    ∃ t, exec (.ais v) s = .next t ∧ GoesOn (.ais v) s t ∧
      (t.skSp.toNat : Int) = (s.skSp.toNat + immInt v) % 2 ^ 20 ∧ Frame [.sp, .sk] [] s t := by
  refine ⟨_, rfl, ?_, ?_, (Frame.setSkSp (s.skSp + immValue v) s).then_advance rfl (immLen v)⟩
  · rw [GoesOn, State.advance_pc, State.setSkSp_pc, immLen_encImm 0x3F v]
    rfl
  · rw [State.skSp_advance, State.skSp_setSkSp, toNat_add_signed, toInt_immValue]

/-- Settles O43: nine rows add a register, three an immediate with Z, and AIS adds to the stack pointer. -/
theorem indexAddition : Obligations.IndexAddition := fun s => by
  refine ⟨?_, fun i => ?_⟩
  · simp only [List.forall_mem_cons]
    exact ⟨exec_addPointer rfl rfl (toNat_add_zext20b ..), exec_addPointer rfl rfl (toNat_add_zext20b ..),
      exec_addPointer rfl rfl (toNat_add_zext20b ..), exec_addPointer rfl rfl (toNat_add_sext20 ..),
      exec_addPointer rfl rfl (toNat_add_sext20 ..), exec_addPointer rfl rfl (toNat_add_sext20 ..),
      exec_addPointer rfl rfl (toNat_add_sext20 ..), exec_addPointer rfl rfl (toNat_add_sext20 ..),
      exec_addPointer rfl rfl (toNat_add_sext20 ..), List.forall_mem_nil _⟩
  · have x := exec_addImmPointer (i := .aix i) (s := s) rfl (immLen_encImm _ i)
    have y := exec_addImmPointer (i := .aiy i) (s := s) rfl (immLen_encImm _ i)
    have z := exec_addImmPointer (i := .aiz i) (s := s) rfl (immLen_encImm _ i)
    have sp := exec_ais_spec i s
    cases i with
    | imm8 ii | imm16 jjkk =>
      simp only [List.forall_mem_cons]
      exact ⟨⟨x, y, z, List.forall_mem_nil _⟩, sp⟩

/-! ### Pointer transfers -/

theorem exec_setPointer {i : Instr} {r : Idx} {v : Addr} {s : State}
    (hx : exec i s = .next ((s.setPointer r v).advance 2)) (hl : 2 = BitVec.ofNat 20 i.length) :
    ∃ t, exec i s = .next t ∧ GoesOn i s t ∧ t.pointer r = v ∧ Frame (pointerLocs r) [] s t := by
  have w := Working.setPointer r v s
  exact ⟨_, hx, w.goesOn_advance hl, by rw [State.pointer_advance, State.pointer_setPointer],
    w.frame.then_advance w.platform 2⟩

theorem exec_setSkSp {i : Instr} {v : Addr} {s : State} (hx : exec i s = .next ((s.setSkSp v).advance 2))
    (hl : 2 = BitVec.ofNat 20 i.length) :
    ∃ t, exec i s = .next t ∧ GoesOn i s t ∧ t.skSp = v ∧ Frame [.sp, .sk] [] s t :=
  ⟨_, hx, congrArg (s.pc + ·) hl, State.skSp_setSkSp v s, (Frame.setSkSp v s).then_advance rfl 2⟩

/-- The low nibble of B as a number. -/
theorem toNat_low_nibble (b : Byte) : (b.extractLsb' 0 4).toNat = b.toNat % 16 := by
  rw [BitVec.extractLsb'_toNat, Nat.shiftRight_zero]

/-- A nibble widened to a byte. -/
theorem toNat_widen_nibble (n : Nibble) : (n.setWidth 8).toNat = n.toNat := by
  have := n.isLt
  rw [BitVec.toNat_setWidth]
  omega

/-- The extension fields by the part each is. -/
def setField (l : Loc) (v : Nibble) (s : State) : State :=
  match l with
  | .ek => { s with ek := v }
  | .xk => { s with xk := v }
  | .yk => { s with yk := v }
  | .zk => { s with zk := v }
  | .sk => { s with sk := v }
  | _ => s

theorem Frame.setField (l : Loc) (v : Nibble) (s : State) : Frame [l] [] s (setField l v s) := by
  cases l
  case ek | xk | yk | zk | sk =>
    exact Frame.of_parts rfl rfl rfl fun l h => by
      cases l <;> first | exact absurd (by decide) h | exact rfl | exact ⟨rfl, rfl⟩
  all_goals exact (Frame.refl s).mono (by simp) (by simp)

theorem exec_toField {i : Instr} {l : Loc} {get : State → Nibble} {s : State}
    (hx : exec i s = .next ((setField l (s.b.extractLsb' 0 4) s).advance 2)) (hl : 2 = BitVec.ofNat 20 i.length)
    (hg : get ((setField l (s.b.extractLsb' 0 4) s).advance 2) = s.b.extractLsb' 0 4) :
    ∃ t, exec i s = .next t ∧ GoesOn i s t ∧ (get t).toNat = s.b.toNat % 16 ∧ Frame [l] [] s t := by
  refine ⟨_, hx, ?_, by rw [hg, toNat_low_nibble], (Frame.setField l _ s).then_advance ?_ 2⟩
  · rw [GoesOn, State.advance_pc, ← hl]
    cases l <;> rfl
  · cases l <;> rfl

theorem exec_fromField {i : Instr} {v : Nibble} {s : State}
    (hx : exec i s = .next ((setR8 .b (v.setWidth 8) s).advance 2)) (hl : 2 = BitVec.ofNat 20 i.length) :
    ∃ t, exec i s = .next t ∧ GoesOn i s t ∧ t.b.toNat = v.toNat ∧ Frame [.b] [] s t :=
  ⟨_, hx, congrArg (s.pc + ·) hl, toNat_widen_nibble v, (Frame.setR8 .b (v.setWidth 8) s).then_advance rfl 2⟩

/-- Settles O44. -/
theorem pointerTransfers : Obligations.PointerTransfers := fun s => by
  simp only [List.forall_mem_cons]
  exact ⟨⟨exec_setPointer rfl rfl, exec_setPointer rfl rfl, exec_setPointer rfl rfl, List.forall_mem_nil _⟩,
    ⟨exec_setSkSp rfl rfl, exec_setSkSp rfl rfl, exec_setSkSp rfl rfl, List.forall_mem_nil _⟩,
    ⟨exec_setPointer rfl rfl, exec_setPointer rfl rfl, exec_setPointer rfl rfl, exec_setPointer rfl rfl,
      exec_setPointer rfl rfl, exec_setPointer rfl rfl, List.forall_mem_nil _⟩,
    ⟨exec_toField rfl rfl rfl, exec_fromField rfl rfl⟩, ⟨exec_toField rfl rfl rfl, exec_fromField rfl rfl⟩,
    ⟨exec_toField rfl rfl rfl, exec_fromField rfl rfl⟩, ⟨exec_toField rfl rfl rfl, exec_fromField rfl rfl⟩,
    ⟨exec_toField rfl rfl rfl, exec_fromField rfl rfl⟩, List.forall_mem_nil _⟩

/-! ### Condition codes -/

/-- The image with PK zero is any image with its low nibble cleared. -/
theorem Ccr.pack_and (c : Ccr) (pk : Nibble) : c.pack pk &&& 0xFFF0#16 = c.pack 0#4 := by
  have mask : (0xFFF0#16) = BitVec.allOnes 12 ++ 0#4 := by decide
  rw [Ccr.pack, Ccr.pack, mask, BitVec.and_append, BitVec.and_allOnes, BitVec.and_zero]

/-- The image with PK zero of flags read from a word is the word with its low nibble cleared. -/
theorem Ccr.pack_unpack_zero (w : Word) : (Ccr.unpack w).pack 0#4 = w &&& 0xFFF0#16 := by
  rw [← Ccr.pack_and (Ccr.unpack w) (w.extractLsb' 0 4), Ccr.pack_unpack]

/-- The whole effect of an instruction that writes CCR[15:4] and inhibits interrupts once (46_stacking_ccr.md R552 to
R555, R560). -/
theorem exec_writeCcr {i : Instr} {c : Ccr} {w : Word} {len : Addr} {s : State}
    (hx : exec i s = .next (((s.writeCcr c).inhibit).advance len)) (hl : len = BitVec.ofNat 20 i.length)
    (hw : c.pack 0#4 = w &&& 0xFFF0#16) :
    ∃ t, exec i s = .next t ∧ GoesOn i s t ∧ t.ccr.pack 0#4 = w &&& 0xFFF0#16 ∧ t.hid.irqInhibit = true ∧
      t.hid.irq7Pending =
        (s.hid.irq7Pending || (decide (s.ccr.ip = 7#3 ∧ t.ccr.ip ≠ 7#3) && s.pins.irq.getLsbD 7)) ∧
      Frame ([.inhibit, .irq7Pending] ++ ccrLocs) [] s t := by
  have inhibit (u : State) : Frame [.inhibit] [] u u.inhibit := Frame.of_parts rfl rfl rfl fun l h => by
    cases l <;> first | exact absurd (by decide) h | exact rfl | exact ⟨rfl, rfl⟩
  refine ⟨_, hx, congrArg (s.pc + ·) hl, hw, rfl, State.writeCcr_irq7Pending c s, ?_⟩
  refine Frame.then_advance (((Frame.writeCcr c s).trans rfl (inhibit _)).mono (fun l h => ?_) (by simp)) rfl len
  simp only [List.mem_append, List.mem_cons, List.not_mem_nil, or_false] at h ⊢
  tauto

/-- TAP keeps IP and SM, which are in the low byte of the image. -/
theorem unpack_tap (a : Byte) (c : Ccr) :
    ({ Ccr.unpack (a ++ 0#8) with ip := c.ip, sm := c.sm } : Ccr) = Ccr.unpack (a ++ lo (c.pack 0#4)) := by
  have high (k : Nat) (l : Byte) (hk : 8 ≤ k) : (a ++ l).getLsbD k = a.getLsbD (k - 8) := by
    rw [BitVec.getLsbD_append, if_neg (by omega)]
  have ip : (a ++ lo (c.pack 0#4) : Word).extractLsb' 5 3 = c.ip := by
    rw [BitVec.extractLsb'_append_eq_of_add_le (by decide), lo, BitVec.extractLsb'_extractLsb'_of_le (by decide)]
    exact Ccr.extractLsb'_pack_eq_ip c 0#4
  have sm : (a ++ lo (c.pack 0#4) : Word).getLsbD 4 = c.sm := by
    rw [BitVec.getLsbD_append, if_pos (by decide), lo, BitVec.getLsbD_extractLsb', Nat.zero_add, decide_eq_true (by decide),
      Bool.true_and]
    exact congrArg Ccr.sm (Ccr.unpack_pack c 0#4)
  simp (disch := decide) only [Ccr.unpack, high, ip, sm]

/-- Settles O48. -/
theorem ccrTransfers : Obligations.CcrTransfers := fun s => by
  simp only [List.forall_mem_cons]
  refine ⟨fun jjkk => ⟨exec_writeCcr rfl rfl (Ccr.pack_unpack_zero _), exec_writeCcr rfl rfl (Ccr.pack_unpack_zero _),
      exec_writeCcr rfl rfl ?_, exec_writeCcr rfl rfl (Ccr.pack_unpack_zero _), List.forall_mem_nil _⟩,
    ⟨_, rfl, rfl, rfl, (Frame.setR8 .a (hi (s.ccr.pack 0#4)) s).then_advance rfl 2⟩,
    ⟨_, rfl, rfl, State.d_setD _ s, (Frame.setR16 .d _ s).then_advance rfl 2⟩⟩
  rw [unpack_tap, Ccr.pack_unpack_zero]

end Sys2Proof.Machine
end

section
/-!
PROOFS. Pushing and pulling several words: PSHM and PULM (46_stacking_ccr.md R550, R551), PSHMAC and PULMAC (47_dsp.md
R585 to R587). A push adds one word to the words pushed so far; a pull moves the stack pointer and changes no memory.
-/

namespace Sys2Proof.Machine

/-! ### Several words pushed -/

/-- The bytes that `n` words pushed from `s` take. -/
def pushedBytes (n : Nat) (s : State) : List Addr :=
  (List.range n).flatMap fun j => wordAt (s.skSp - BitVec.ofNat 20 (2 * j))

/-- `t` is `s` after the words `ws` were pushed, the first of them highest. -/
structure Pushed (ws : List Word) (s t : State) : Prop where
  skSp : t.skSp = s.skSp - BitVec.ofNat 20 (2 * ws.length)
  words : ∀ (j : Nat) (w : Word), ws[j]? = some w → t.peekWord .data (s.skSp - BitVec.ofNat 20 (2 * j)) = w
  working : Working [.sp, .sk] (pushedBytes ws.length s) s t
  mem_wf : Memory.wf t.mem = true

theorem Pushed.nil {s : State} (hi : s.Inv) : Pushed [] s s :=
  ⟨by simp, by simp, ⟨rfl, rfl, rfl, (Frame.refl s).mono (by simp) (by simp)⟩, hi.mem_wf⟩

/-- Words pushed at different places, fewer than half of the address space, do not meet. -/
theorem not_mem_wordAt_sub {j n : Nat} (hj : j < n) (hn : n < 2 ^ 18) (a : Addr) :
    a - BitVec.ofNat 20 (2 * j) ∉ wordAt (a - BitVec.ofNat 20 (2 * n)) ∧
      a - BitVec.ofNat 20 (2 * j) + 1 ∉ wordAt (a - BitVec.ofNat 20 (2 * n)) := by
  simp only [wordAt, List.mem_cons, List.not_mem_nil, or_false, not_or]
  bv_omega

theorem Pushed.push {ws : List Word} {s t : State} (h : Pushed ws s t) (hq : s.Quiet) (hn : ws.length < 2 ^ 18)
    (w : Word) : Pushed (ws ++ [w]) s (t.pushWord w) := by
  have tq : t.Quiet := hq.of_platform h.working.platform
  obtain ⟨sp, top, frame, pc, platform, wf⟩ := tq.pushWord_spec h.mem_wf w
  have ccr : (t.pushWord w).ccr = t.ccr := by rw [tq.pushWord, State.setSkSp_ccr, pokeWord_ccr]
  have length : (ws ++ [w]).length = ws.length + 1 := by simp
  refine ⟨?_, fun j v hj => ?_, ⟨pc.trans h.working.pc, ccr.trans h.working.ccr, platform.trans h.working.platform,
    (h.working.frame.trans h.working.platform frame).mono (by simp) fun x hx => ?_⟩, wf⟩
  · rw [sp, h.skSp, length]
    bv_omega
  · by_cases e : j < ws.length
    · rw [List.getElem?_append_left e] at hj
      obtain ⟨n0, n1⟩ := not_mem_wordAt_sub e hn s.skSp
      rw [State.peekWord, frame.data _ (by rwa [h.skSp]), frame.data _ (by rwa [h.skSp]), ← State.peekWord]
      exact h.words j v hj
    · obtain rfl : j = ws.length := by
        have := (List.getElem?_eq_some_iff.mp hj).1
        omega
      rw [List.getElem?_concat_length, Option.some.injEq] at hj
      rw [← h.skSp, top, hj]
  · rw [length, pushedBytes, List.range_succ, List.flatMap_append, List.flatMap_singleton]
    rwa [h.skSp] at hx

/-! ### PSHM -/

theorem setBelow_succ (mask : Byte) (k : Nat) :
    setBelow mask (k + 1) = setBelow mask k + if mask.getLsbD k then 1 else 0 := by
  rw [setBelow, setBelow, List.range_succ, List.filter_append, List.length_append]
  cases h : mask.getLsbD k <;> simp [h]

/-- The words PSHM pushes for the mask bits below `k`. -/
def pshmWords (mask : Byte) (k : Nat) (s : State) : List Word :=
  ((List.range k).filter fun j => mask.getLsbD j).map fun j => pshmWord j s

theorem length_pshmWords (mask : Byte) (k : Nat) (s : State) : (pshmWords mask k s).length = setBelow mask k := by
  rw [pshmWords, List.length_map, setBelow]

theorem pshmWords_succ (mask : Byte) (k : Nat) (s : State) :
    pshmWords mask (k + 1) s = pshmWords mask k s ++ if mask.getLsbD k then [pshmWord k s] else [] := by
  rw [pshmWords, pshmWords, List.range_succ, List.filter_append, List.map_append]
  cases h : mask.getLsbD k <;> simp [h]

/-- The word of a set mask bit stands after those of the set bits below it. -/
theorem pshmWords_getElem? {mask : Byte} {k n : Nat} (hk : mask.getLsbD k = true) (hn : k < n) (s : State) :
    (pshmWords mask n s)[setBelow mask k]? = some (pshmWord k s) := by
  induction n, hn using Nat.le_induction with
  | base => rw [pshmWords_succ, if_pos hk, ← length_pshmWords mask k s, List.getElem?_concat_length]
  | succ m _ ih =>
    have lt := (List.getElem?_eq_some_iff.mp ih).1
    rw [pshmWords_succ, List.getElem?_append_left lt, ih]

/-- What PSHM pushes is as it was before the pushes. -/
theorem Pushed.pshmWord_eq {ws : List Word} {s t : State} (h : Pushed ws s t) (k : Nat) : pshmWord k t = pshmWord k s := by
  have f := h.working.frame
  have hd : t.d = s.d := by rw [State.d, State.d, f.parts .a (by decide), f.parts .b (by decide)]
  have hk : t.k = s.k := by
    rw [State.k, State.k, f.parts .ek (by decide), f.parts .xk (by decide), f.parts .yk (by decide),
      f.parts .zk (by decide)]
  have hc : t.ccr.pack (bank t.vpc) = s.ccr.pack (bank s.vpc) := by
    rw [State.vpc, State.vpc, h.working.ccr, h.working.pc]
  unfold pshmWord
  split
  · exact hd
  · exact f.parts .e (by decide)
  · exact f.parts .ix (by decide)
  · exact f.parts .iy (by decide)
  · exact f.parts .iz (by decide)
  · exact hk
  · exact hc

theorem setBelow_le (mask : Byte) (k : Nat) : setBelow mask k ≤ k :=
  (List.length_filter_le _ _).trans (List.length_range).le

/-- PSHM after the mask bits below `k`. -/
theorem Pushed.pshm {s : State} (hi : s.Inv) (hq : s.Quiet) (mask : Byte) {k : Nat} (hk : k ≤ 7) :
    Pushed (pshmWords mask k s) s ((List.range k).foldl (fun t bit => pshmBit mask bit t) s) := by
  induction k with
  | zero => exact Pushed.nil hi
  | succ k ih =>
    have before := ih (by omega)
    have short := setBelow_le mask k
    rw [List.range_succ, List.foldl_append, List.foldl_cons, List.foldl_nil, pshmWords_succ, pshmBit,
      before.pshmWord_eq]
    cases mask.getLsbD k with
    | false => simpa using before
    | true => exact before.push hq (by rw [length_pshmWords]; omega) _

theorem pshmWord_eq_getD (s : State) {k : Nat} (hk : k < 7) :
    pshmWord k s = [s.d, s.e, s.ix, s.iy, s.iz, s.k, s.ccr.pack (bank (s.pc + 6))].getD k 0#16 := by
  interval_cases k <;> rfl

/-- Settles O46: PSHM after all seven bits. -/
theorem pushMultiple : Obligations.PushMultiple := fun mask s hi hq => by
  have pushed := Pushed.pshm hi hq mask (le_refl 7)
  have working := pushed.working
  rw [length_pshmWords] at working
  refine ⟨_, rfl, working.goesOn_advance rfl, ?_, fun k hk bit => ?_, working.frame.then_advance working.platform 2⟩
  · rw [State.skSp_advance, ← length_pshmWords mask 7 s]
    exact pushed.skSp
  · rw [State.peekWord_advance, ← pshmWord_eq_getD s hk]
    exact pushed.words _ _ (pshmWords_getElem? bit hk s)

/-! ### PULM -/

/-- The register of a mask bit of PULM holds the word; of the CCR, bits 15 to 4 do. -/
def Pulled (k : Nat) (w : Word) (t : State) : Prop :=
  match k with
  | 0 => t.ccr.pack (w.extractLsb' 0 4) = w
  | 1 => t.k = w
  | 2 => t.iz = w
  | 3 => t.iy = w
  | 4 => t.ix = w
  | 5 => t.e = w
  | _ => t.d = w

/-- The parts that PULM loads for a mask bit. -/
def pulmLocs (k : Nat) : List Loc :=
  match k with
  | 0 => ccrLocs ++ [.irq7Pending]
  | 1 => [.ek, .xk, .yk, .zk]
  | 2 => [.iz]
  | 3 => [.iy]
  | 4 => [.ix]
  | 5 => [.e]
  | _ => [.a, .b]

/-- K is made of the four fields written. -/
@[simp] theorem State.k_setK (v : Word) (s : State) : (s.setK v).k = v := by
  have e : (s.setK v).k =
      v.extractLsb' 12 4 ++ v.extractLsb' 8 4 ++ v.extractLsb' 4 4 ++ v.extractLsb' 0 4 := rfl
  rw [e]
  simp (disch := rfl) only [BitVec.extractLsb'_append_extractLsb'_eq_extractLsb']
  exact BitVec.extractLsb'_eq_self

theorem pulled_pulmLoad {k : Nat} (hk : k < 7) (w : Word) (t : State) : Pulled k w (pulmLoad k w t) := by
  interval_cases k
  · exact Ccr.pack_unpack w
  · exact State.k_setK w t
  · exact rfl
  · exact rfl
  · exact rfl
  · exact rfl
  · exact State.d_setD w t

/-- Loading the register of one mask bit keeps what the bits below it loaded. -/
theorem pulled_pulmLoad_of_lt {j k : Nat} (hj : j < k) (hk : k < 7) {w : Word} (v : Word) {t : State}
    (h : Pulled j w t) : Pulled j w (pulmLoad k v t) := by
  interval_cases k <;> interval_cases j <;> exact h

theorem pulled_setSkSp {j : Nat} (hj : j < 7) {w : Word} (a : Addr) {t : State} (h : Pulled j w t) :
    Pulled j w (t.setSkSp a) := by
  interval_cases j <;> exact h

theorem Frame.pulmLoad {k : Nat} (hk : k < 7) (v : Word) (t : State) : Frame (pulmLocs k) [] t (pulmLoad k v t) := by
  obtain rfl | low := Nat.eq_zero_or_pos k
  · exact (Frame.writeCcr _ t).mono (by decide) (by simp)
  · interval_cases k <;> exact Frame.of_parts rfl rfl rfl fun l h => by
      cases l <;> first | exact absurd (by decide) h | exact rfl | exact ⟨rfl, rfl⟩

theorem pulmLoad_pc {k : Nat} (hk : k < 7) (v : Word) (t : State) : (pulmLoad k v t).pc = t.pc := by
  interval_cases k <;> rfl

theorem skSp_pulmLoad {k : Nat} (hk : k < 7) (v : Word) (t : State) : (pulmLoad k v t).skSp = t.skSp := by
  interval_cases k <;> rfl

/-- The word that PULM takes for a mask bit. -/
def pulmWord (mask : Byte) (k : Nat) (s : State) : Word :=
  s.peekWord .data (s.skSp + BitVec.ofNat 20 (2 * setBelow mask k + 2))

/-- The parts PULM loads for the mask bits below `k`. -/
def pulmLocsBelow (mask : Byte) (k : Nat) : List Loc :=
  (List.range k).flatMap fun j => if mask.getLsbD j then pulmLocs j else []

/-- `t` is `s` after PULM took the mask bits below `k`. -/
structure PulledBelow (mask : Byte) (k : Nat) (s t : State) : Prop where
  skSp : t.skSp = s.skSp + BitVec.ofNat 20 (2 * setBelow mask k)
  loaded : ∀ j, j < k → mask.getLsbD j = true → Pulled j (pulmWord mask j s) t
  pc : t.pc = s.pc
  frame : Frame ([.sp, .sk] ++ pulmLocsBelow mask k) [] s t

theorem PulledBelow.zero (mask : Byte) (s : State) : PulledBelow mask 0 s s :=
  ⟨by simp [setBelow], fun _ hj => absurd hj (Nat.not_lt_zero _), rfl, (Frame.refl s).mono (by simp) (by simp)⟩

theorem PulledBelow.platform {mask : Byte} {k : Nat} {s t : State} (h : PulledBelow mask k s t) (hk : k ≤ 7) :
    t.platform = s.platform := by
  refine h.frame.parts .platform fun m => ?_
  simp only [pulmLocsBelow, List.mem_append, List.mem_flatMap, List.mem_range] at m
  obtain m | ⟨j, hj, m⟩ := m
  · exact absurd m (by decide)
  · split at m
    · have : j < 7 := by omega
      interval_cases j <;> exact absurd m (by decide)
    · exact absurd m List.not_mem_nil

theorem PulledBelow.succ {mask : Byte} {k : Nat} {s t : State} (h : PulledBelow mask k s t) (hq : s.Quiet)
    (hk : k < 7) : PulledBelow mask (k + 1) s (pulmBit mask k t) := by
  have platform := h.platform (Nat.le_of_lt hk)
  have locs : pulmLocsBelow mask (k + 1) = pulmLocsBelow mask k ++ if mask.getLsbD k then pulmLocs k else [] := by
    rw [pulmLocsBelow, List.range_succ, List.flatMap_append, List.flatMap_singleton, ← pulmLocsBelow]
  have tq : t.Quiet := hq.of_platform platform
  rw [pulmBit]
  cases bit : mask.getLsbD k with
  | false =>
    refine ⟨by simp [h.skSp, setBelow_succ, bit], fun j hj hm => h.loaded j ?_ hm, h.pc, by simpa [locs, bit] using h.frame⟩
    have : j ≠ k := fun e => by simp [← e, hm] at bit
    omega
  | true =>
    have place : t.skSp + 2 = s.skSp + BitVec.ofNat 20 (2 * setBelow mask k + 2) := by
      rw [h.skSp]
      bv_omega
    have word : t.peekWord .data (t.skSp + 2) = pulmWord mask k s := by
      rw [pulmWord, ← place, State.peekWord, State.peekWord, h.frame.data _ List.not_mem_nil,
        h.frame.data _ List.not_mem_nil]
    rw [if_pos rfl, tq.pullWord, word]
    refine ⟨?_, fun j hj hm => ?_, (pulmLoad_pc hk ..).trans h.pc, ?_⟩
    · rw [skSp_pulmLoad hk, State.skSp_setSkSp, place, setBelow_succ, bit, if_pos rfl, Nat.mul_add]
    · obtain below | rfl := Nat.lt_succ_iff_lt_or_eq.mp hj
      · exact pulled_pulmLoad_of_lt below hk _ (pulled_setSkSp (by omega) _ (h.loaded j below hm))
      · exact pulled_pulmLoad hk _ _
    · refine ((h.frame.trans platform (Frame.setSkSp _ t)).trans platform (Frame.pulmLoad hk _ _)).mono (fun l m => ?_)
        (by simp)
      rw [locs, bit, if_pos rfl]
      simp only [List.mem_append] at m ⊢
      tauto

/-- PULM after the mask bits below `k`. -/
theorem PulledBelow.fold {s : State} (hq : s.Quiet) (mask : Byte) {k : Nat} (hk : k ≤ 7) :
    PulledBelow mask k s ((List.range k).foldl (fun t bit => pulmBit mask bit t) s) := by
  induction k with
  | zero => exact PulledBelow.zero mask s
  | succ k ih =>
    rw [List.range_succ, List.foldl_append, List.foldl_cons, List.foldl_nil]
    exact (ih (by omega)).succ hq hk

/-- PULM on a quiet platform: the word more that it reads changes nothing. -/
theorem State.Quiet.exec_pulm {s : State} (hq : s.Quiet) (mask : Byte) :
    exec (.pulm mask) s = .next (((List.range 7).foldl (fun t bit => pulmBit mask bit t) s).advance 2) := by
  have h : exec (.pulm mask) s = execPulm mask s := rfl
  have tq := hq.of_platform ((PulledBelow.fold hq mask (le_refl 7)).platform (le_refl 7))
  rw [h, execPulm, show maskBits = List.range 7 from rfl, tq.readWord]

/-- Settles O47: PULM after all seven bits. -/
theorem pullMultiple : Obligations.PullMultiple := fun mask s hq => by
  have pulled := PulledBelow.fold hq mask (le_refl 7)
  have platform := pulled.platform (le_refl 7)
  refine ⟨_, hq.exec_pulm mask, ?_, pulled.skSp, fun m => ?_, fun m => ?_, fun m => ?_, fun m => ?_, fun m => ?_,
    fun m => ?_, fun m => ?_, (pulled.frame.then_advance platform 2).mono (fun l m => ?_) (by simp)⟩
  · rw [GoesOn, State.advance_pc, pulled.pc]
    rfl
  · exact pulled.loaded 0 (by decide) m
  · exact pulled.loaded 1 (by decide) m
  · exact pulled.loaded 2 (by decide) m
  · exact pulled.loaded 3 (by decide) m
  · exact pulled.loaded 4 (by decide) m
  · exact pulled.loaded 5 (by decide) m
  · exact pulled.loaded 6 (by decide) m
  · simp only [List.append_assoc]
    simpa only [pulmLocsBelow, List.range_succ, List.range_zero, List.nil_append, List.flatMap_append, List.flatMap_cons,
      List.flatMap_nil, List.append_nil, pulmLocs, List.append_assoc] using m

/-! ### PSHMAC and PULMAC -/

/-- The words of the MAC image, in the order pushed (47_dsp.md R585). -/
def macImage (mac : MacUnit) (free : Word) : List Word :=
  [mac.xmsk ++ mac.ymsk, slWord mac free, mac.am.extractLsb' 16 16, mac.am.extractLsb' 0 16, mac.ir, mac.hr]

theorem Pushed.of_draws {ws : List Word} {s t : State} (h : Pushed ws s.bump t) : Pushed ws s t :=
  ⟨h.skSp, h.words, ⟨h.working.pc, h.working.ccr, h.working.platform, h.working.frame.parts, h.working.frame.data,
    h.working.frame.program⟩, h.mem_wf⟩

theorem exec_pshmac (s : State) :
    exec .pshmac s =
      .next (((macImage s.mac (Config.anyWord s.draws)).foldl (fun t w => t.pushWord w) s.bump).advance 2) := rfl

theorem Pushed.foldl {ws vs : List Word} {s t : State} (h : Pushed ws s t) (hq : s.Quiet)
    (hn : ws.length + vs.length < 2 ^ 18) : Pushed (ws ++ vs) s (vs.foldl (fun t w => t.pushWord w) t) := by
  induction vs generalizing ws t with
  | nil => simpa using h
  | cons v vs ih =>
    have length : (v :: vs).length = vs.length + 1 := rfl
    have more := ih (h.push hq (by omega) v) (by simp only [List.length_append, List.length_singleton]; omega)
    rwa [List.append_assoc] at more

/-- The SL word holds SL in bit 15 and AM[35:32] in bits 3 to 0. -/
theorem getLsbD_slWord (mac : MacUnit) (free : Word) : (slWord mac free).getLsbD 15 = mac.sl := by
  rw [slWord, BitVec.getLsbD_append, if_neg (by decide), BitVec.getLsbD_append, if_neg (by decide)]
  simp

theorem extractLsb'_slWord (mac : MacUnit) (free : Word) : (slWord mac free).extractLsb' 0 4 = mac.am.extractLsb' 32 4 :=
  BitVec.extractLsb'_append_eq_right

/-- AM is made of the three fields stacked. -/
theorem am_of_fields (am : Acc) : am.extractLsb' 32 4 ++ am.extractLsb' 16 16 ++ am.extractLsb' 0 16 = am := by
  simp (disch := rfl) only [BitVec.extractLsb'_append_extractLsb'_eq_extractLsb']
  exact BitVec.extractLsb'_eq_self

theorem exec_pshmac_spec {s : State} (hi : s.Inv) (hq : s.Quiet) :
    ∃ t, exec .pshmac s = .next t ∧ GoesOn .pshmac s t ∧ t.skSp = s.skSp - 12 ∧
      t.peekWord .data s.skSp = s.mac.xmsk ++ s.mac.ymsk ∧
      (t.peekWord .data (s.skSp - 2)).getLsbD 15 = s.mac.sl ∧
      (t.peekWord .data (s.skSp - 2)).extractLsb' 0 4 ++ t.peekWord .data (s.skSp - 4) ++
        t.peekWord .data (s.skSp - 6) = s.mac.am ∧
      t.peekWord .data (s.skSp - 8) = s.mac.ir ∧ t.peekWord .data (s.skSp - 10) = s.mac.hr ∧
      Frame [.sp, .sk] ((List.range 6).flatMap fun j => wordAt (s.skSp - BitVec.ofNat 20 (2 * j))) s t := by
  have bi : s.bump.Inv := ⟨hi.mem_wf, hi.pmem_wf, hi.pc_even⟩
  have pushed : Pushed (macImage s.mac (Config.anyWord s.draws)) s _ :=
    ((Pushed.nil bi).foldl (vs := macImage s.mac (Config.anyWord s.draws)) (hq.of_platform rfl)
      (by simp [macImage])).of_draws
  have word (j : Nat) (w : Word) (hw : (macImage s.mac (Config.anyWord s.draws))[j]? = some w) := pushed.words j w hw
  refine ⟨_, exec_pshmac s, pushed.working.goesOn_advance rfl, pushed.skSp, ?_, ?_, ?_, word 4 _ rfl, word 5 _ rfl,
    pushed.working.frame.then_advance pushed.working.platform 2⟩
  · have first := word 0 _ rfl
    rw [show s.skSp - BitVec.ofNat 20 (2 * 0) = s.skSp from by simp] at first
    exact first
  · rw [State.peekWord_advance, show s.skSp - 2 = s.skSp - BitVec.ofNat 20 (2 * 1) from rfl, word 1 _ rfl]
    exact getLsbD_slWord ..
  · rw [State.peekWord_advance, State.peekWord_advance, State.peekWord_advance,
      show s.skSp - 2 = s.skSp - BitVec.ofNat 20 (2 * 1) from rfl, word 1 _ rfl,
      show s.skSp - 4 = s.skSp - BitVec.ofNat 20 (2 * 2) from rfl, word 2 _ rfl,
      show s.skSp - 6 = s.skSp - BitVec.ofNat 20 (2 * 3) from rfl, word 3 _ rfl, extractLsb'_slWord]
    exact am_of_fields _

/-- Write the MAC registers. -/
def State.setMac (m : MacUnit) (s : State) : State := { s with mac := m }

theorem Frame.setMac (m : MacUnit) (s : State) : Frame [.hr, .ir, .am, .sl, .xmsk, .ymsk] [] s (s.setMac m) :=
  Frame.of_parts rfl rfl rfl fun l h => by
    cases l <;> first | exact absurd (by decide) h | exact rfl | exact ⟨rfl, rfl⟩

/-- The MAC unit that PULMAC makes of the words it pulls (47_dsp.md R587). -/
def macOfImage (hr ir low high sl masks : Word) : MacUnit :=
  { hr := hr, ir := ir, am := sl.extractLsb' 0 4 ++ high ++ low, xmsk := hi masks, ymsk := lo masks,
    sl := sl.getLsbD 15 }

theorem loadSlWord_loadAm (mac : MacUnit) (low high sl : Word) :
    (loadSlWord sl (loadAmHigh high (loadAmLow low mac))).am = sl.extractLsb' 0 4 ++ high ++ low := by
  refine BitVec.eq_of_toNat_eq ?_
  have := low.isLt
  have := high.isLt
  simp only [loadSlWord, loadAmHigh, loadAmLow, toNat_append_eq_mul_add, BitVec.extractLsb'_toNat,
    Nat.shiftRight_eq_div_pow]
  omega

theorem State.Quiet.exec_pulmac {s : State} (hq : s.Quiet) :
    exec .pulmac s = .next (((s.setSkSp (s.skSp + 12)).setMac
      (macOfImage (s.peekWord .data (s.skSp + 2)) (s.peekWord .data (s.skSp + 4)) (s.peekWord .data (s.skSp + 6))
        (s.peekWord .data (s.skSp + 8)) (s.peekWord .data (s.skSp + 10))
        (s.peekWord .data (s.skSp + 12)))).advance 2) := by
  have h : exec .pulmac s = execPulmac s := rfl
  have e (n : Addr) : s.skSp + n + 2 = s.skSp + (n + 2) := by bv_omega
  rw [h, execPulmac, hq.pullWord]
  simp only [hq.pullWord_setSkSp, e]
  rw [macOfImage, ← loadSlWord_loadAm
    { s.mac with hr := s.peekWord .data (s.skSp + 2), ir := s.peekWord .data (s.skSp + 4) }]
  rfl

theorem exec_pulmac_spec {s : State} (hq : s.Quiet) :
    ∃ t, exec .pulmac s = .next t ∧ GoesOn .pulmac s t ∧ t.skSp = s.skSp + 12 ∧
      t.mac.hr = s.peekWord .data (s.skSp + 2) ∧ t.mac.ir = s.peekWord .data (s.skSp + 4) ∧
      t.mac.am = (s.peekWord .data (s.skSp + 10)).extractLsb' 0 4 ++ s.peekWord .data (s.skSp + 8) ++
        s.peekWord .data (s.skSp + 6) ∧
      t.mac.sl = (s.peekWord .data (s.skSp + 10)).getLsbD 15 ∧
      t.mac.xmsk ++ t.mac.ymsk = s.peekWord .data (s.skSp + 12) ∧
      Frame [.sp, .sk, .hr, .ir, .am, .sl, .xmsk, .ymsk] [] s t := by
  refine ⟨_, hq.exec_pulmac, rfl, State.skSp_setSkSp (s.skSp + 12) s, rfl, rfl, rfl, rfl, hi_append_lo _, ?_⟩
  exact ((Frame.setSkSp (s.skSp + 12) s).trans rfl (Frame.setMac _ _)).then_advance rfl 2

/-- Settles O58. -/
theorem macStack : Obligations.MacStack := fun _ hq => ⟨fun hi => exec_pshmac_spec hi hq, exec_pulmac_spec hq⟩

end Sys2Proof.Machine
end

section
/-!
PROOFS. Multiplication and division (42_mul_div_inc_clr.md R291 to R298), decimal adjust and sign extension
(41_add_sub_compare.md R261, R262).
-/

namespace Sys2Proof.Machine

/-! ### E : D -/

/-- Writing E : D and reading it back. -/
@[simp] theorem State.ed_setEd (v : BitVec 32) (s : State) : (s.setEd v).ed = v := by
  have e : (s.setEd v).ed = v.extractLsb' 16 16 ++ v.extractLsb' 0 16 :=
    congrArg (v.extractLsb' 16 16 ++ ·) (hi_append_lo (v.extractLsb' 0 16))
  rw [e]
  simp (disch := rfl) only [BitVec.extractLsb'_append_extractLsb'_eq_extractLsb']
  exact BitVec.extractLsb'_eq_self

theorem Frame.setEd (v : BitVec 32) (s : State) : Frame [.a, .b, .e] [] s (s.setEd v) :=
  Frame.of_parts rfl rfl rfl fun l h => by
    cases l <;> first | exact absurd (by decide) h | exact rfl | exact ⟨rfl, rfl⟩

theorem Working.setEd (v : BitVec 32) (s : State) : Working [.a, .b, .e] [] s (s.setEd v) :=
  ⟨rfl, rfl, rfl, Frame.setEd v s⟩

theorem FlagFrame.c (c : Ccr) (b : Bool) : FlagFrame [.c] c { c with c := b } := by
  refine ⟨fun s hs => ?_⟩
  subst hs
  exact Frame.of_parts rfl rfl rfl fun l h => by
    cases l <;> first | exact absurd (by decide) h | exact rfl | exact ⟨rfl, rfl⟩

theorem FlagFrame.nzc (c : Ccr) (n z b : Bool) : FlagFrame [.n, .z, .c] c { c with n := n, z := z, c := b } := by
  refine ⟨fun s hs => ?_⟩
  subst hs
  exact Frame.of_parts rfl rfl rfl fun l h => by
    cases l <;> first | exact absurd (by decide) h | exact rfl | exact ⟨rfl, rfl⟩

theorem FlagFrame.zvc (c : Ccr) (z v b : Bool) : FlagFrame [.z, .v, .c] c { c with z := z, v := v, c := b } := by
  refine ⟨fun s hs => ?_⟩
  subst hs
  exact Frame.of_parts rfl rfl rfl fun l h => by
    cases l <;> first | exact absurd (by decide) h | exact rfl | exact ⟨rfl, rfl⟩

theorem FlagFrame.nz (c : Ccr) (n z : Bool) : FlagFrame [.n, .z] c { c with n := n, z := z } := by
  refine ⟨fun s hs => ?_⟩
  subst hs
  exact Frame.of_parts rfl rfl rfl fun l h => by
    cases l <;> first | exact absurd (by decide) h | exact rfl | exact ⟨rfl, rfl⟩

/-! ### Products -/

theorem exec_mul_spec (s : State) :
    ∃ t, exec .mul s = .next t ∧ GoesOn .mul s t ∧ t.d.toNat = s.a.toNat * s.b.toNat ∧
      t.ccr.c = t.d.getLsbD 7 ∧ Frame [.a, .b, .c] [] s t := by
  obtain ⟨t, hx, hg, hd, hc, hf⟩ :=
    exec_writeR16_spec (i := .mul) (r := .d) (v := BitVec.ofNat 16 (s.a.toNat * s.b.toNat)) (s := s) rfl rfl
      (FlagFrame.c ..)
  refine ⟨t, hx, hg, ?_, ?_, hf⟩
  · have lt : s.a.toNat * s.b.toNat < 2 ^ 16 := (Nat.mul_lt_mul'' s.a.isLt s.b.isLt).trans_eq (by decide)
    rw [show t.d = _ from hd, BitVec.toNat_ofNat, Nat.mod_eq_of_lt lt]
  · rw [hc, show t.d = _ from hd]

/-- A 32-bit product stored in E : D with its flags (42_mul_div_inc_clr.md R293). -/
theorem exec_storeProduct {i : Instr} {p : BitVec 32} {v : Bool} {fs : List Loc} {s : State}
    (hx : exec i s = storeProduct p v s) (hl : 2 = BitVec.ofNat 20 i.length)
    (hf : FlagFrame fs s.ccr { s.ccr with n := p.msb, z := p == 0#32, v := v, c := p.getLsbD 15 }) :
    ∃ t, exec i s = .next t ∧ GoesOn i s t ∧ t.ed = p ∧ SetsNZ t.ed t.ccr ∧ t.ccr.c = t.ed.getLsbD 15 ∧ t.ccr.v = v ∧
      Frame ([.a, .b, .e] ++ fs) [] s t := by
  have w := Working.setEd p s
  have ed : (((s.setEd p).setFlags { s.ccr with n := p.msb, z := p == 0#32, v := v, c := p.getLsbD 15 }).advance 2).ed =
      p := State.ed_setEd p s
  exact ⟨_, hx, w.goesOn _ hl, ed, by rw [ed]; exact setsNZ_mk p _ rfl rfl, by rw [ed]; rfl, rfl, w.finish hf 2⟩

theorem exec_emul_spec (s : State) :
    ∃ t, exec .emul s = .next t ∧ GoesOn .emul s t ∧ t.ed.toNat = s.e.toNat * s.d.toNat ∧
      SetsNZ t.ed t.ccr ∧ t.ccr.c = t.ed.getLsbD 15 ∧ Frame [.a, .b, .e, .n, .z, .c] [] s t := by
  obtain ⟨t, hx, hg, hp, hn, hc, -, hf⟩ := exec_storeProduct (i := .emul) (s := s) rfl rfl (FlagFrame.nzc ..)
  refine ⟨t, hx, hg, ?_, hn, hc, hf⟩
  have lt : s.e.toNat * s.d.toNat < 2 ^ 32 := (Nat.mul_lt_mul'' s.e.isLt s.d.isLt).trans_eq (by decide)
  rw [hp, BitVec.toNat_ofNat, Nat.mod_eq_of_lt lt]

/-- A product of two signed words fits 31 bits. -/
theorem toInt_mul_toInt_bounds (x y : Word) : -2 ^ 30 ≤ x.toInt * y.toInt ∧ x.toInt * y.toInt ≤ 2 ^ 30 :=
  ⟨BitVec.le_toInt_mul_toInt, BitVec.toInt_mul_toInt_le⟩

theorem exec_emuls_spec (s : State) :
    ∃ t, exec .emuls s = .next t ∧ GoesOn .emuls s t ∧ t.ed.toInt = s.e.toInt * s.d.toInt ∧
      SetsNZ t.ed t.ccr ∧ t.ccr.c = t.ed.getLsbD 15 ∧ Frame [.a, .b, .e, .n, .z, .c] [] s t := by
  obtain ⟨t, hx, hg, hp, hn, hc, -, hf⟩ := exec_storeProduct (i := .emuls) (s := s) rfl rfl (FlagFrame.nzc ..)
  obtain ⟨low, high⟩ := toInt_mul_toInt_bounds s.e s.d
  exact ⟨t, hx, hg, by rw [hp, BitVec.toInt_ofInt_eq_self (by decide) (by omega) (by omega)], hn, hc, hf⟩

/-- Only -1 times -1, as fractions, reaches 1. -/
theorem toInt_mul_toInt_eq {x y : Word} (h : ¬x.toInt * y.toInt < 2 ^ 30) : x = 0x8000#16 ∧ y = 0x8000#16 := by
  have xl := x.le_toInt
  have yl := y.le_toInt
  have xu := x.toInt_lt
  have yu := y.toInt_lt
  simp only [Nat.reduceSub] at xl yl xu yu
  have hx : x.toInt = -2 ^ 15 := by nlinarith
  have hy : y.toInt = -2 ^ 15 := by nlinarith
  exact ⟨BitVec.eq_of_toInt_eq hx, BitVec.eq_of_toInt_eq hy⟩

theorem exec_fmuls_spec (s : State) :
    ∃ t, exec .fmuls s = .next t ∧ GoesOn .fmuls s t ∧
      (if s.e = 0x8000#16 ∧ s.d = 0x8000#16 then t.ed = 0x80000000#32 ∧ t.ccr.v = true
        else t.ed.toInt = 2 * (s.e.toInt * s.d.toInt) ∧ t.ccr.v = false) ∧
      SetsNZ t.ed t.ccr ∧ t.ccr.c = t.ed.getLsbD 15 ∧ Frame [.a, .b, .e, .n, .z, .v, .c] [] s t := by
  obtain ⟨t, hx, hg, hp, hn, hc, hv, hf⟩ := exec_storeProduct (i := .fmuls) (s := s) rfl rfl (FlagFrame.nzvc ..)
  refine ⟨t, hx, hg, ?_, hn, hc, hf⟩
  split
  · rename_i h
    rw [hp, hv, h.1, h.2]
    exact ⟨by decide, rfl⟩
  · rename_i h
    obtain ⟨low, -⟩ := toInt_mul_toInt_bounds s.e s.d
    have high : s.e.toInt * s.d.toInt < 2 ^ 30 := not_le.mp fun le => h (toInt_mul_toInt_eq (not_lt.mpr le))
    constructor
    · rw [hp, BitVec.toInt_ofInt_eq_self (by decide) (by omega) (by omega), Int.mul_comm]
    · rw [hv, Bool.and_eq_false_iff, beq_eq_false_iff_ne, beq_eq_false_iff_ne]
      exact not_and_or.mp h

/-- Settles O49. -/
theorem multiplication : Obligations.Multiplication := fun s =>
  ⟨exec_mul_spec s, exec_emul_spec s, exec_emuls_spec s, exec_fmuls_spec s⟩

/-! ### Extended division -/

/-- A quotient that does not fit: V is set, E stays (42_mul_div_inc_clr.md R291, R292). -/
theorem exec_divideOverflow {i : Instr} {s : State} (hx : exec i s = divideOverflow s)
    (hl : 2 = BitVec.ofNat 20 i.length) :
    ∃ t, exec i s = .next t ∧ GoesOn i s t ∧ Frame [.ix, .a, .b, .n, .z, .v, .c] [] s t ∧ t.ccr.v = true := by
  refine ⟨_, hx, congrArg (s.pc + ·) hl, Frame.of_parts rfl rfl rfl fun l h => ?_, rfl⟩
  cases l <;> first | exact absurd (by decide) h | exact rfl | exact ⟨rfl, rfl⟩

/-- A quotient and a remainder stored (42_mul_div_inc_clr.md R291, R292). -/
theorem exec_divideResult {i : Instr} {q r : Word} {c : Bool} {s : State} (hx : exec i s = divideResult q r c s)
    (hl : 2 = BitVec.ofNat 20 i.length) :
    ∃ t, exec i s = .next t ∧ GoesOn i s t ∧ Frame [.ix, .a, .b, .n, .z, .v, .c] [] s t ∧ t.ix = q ∧ t.d = r ∧
      IsResult t.ix t.ccr ∧ t.ccr.c = c := by
  have w := ((Working.refl s).setR16 .ix q).setR16 .d r
  exact ⟨_, hx, w.goesOn _ hl, w.finish (FlagFrame.nzvc ..) 2, rfl, hi_append_lo r, ⟨setsNZ_mk q _ rfl rfl, rfl⟩, rfl⟩

theorem exec_ediv_eq {s : State} (h : s.ix ≠ 0#16) :
    exec .ediv s =
      if 0xFFFF < s.ed.toNat / s.ix.toNat then divideOverflow s
      else divideResult (BitVec.ofNat 16 (s.ed.toNat / s.ix.toNat)) (BitVec.ofNat 16 (s.ed.toNat % s.ix.toNat))
        (decide (s.ix.toNat ≤ 2 * (s.ed.toNat % s.ix.toNat))) s :=
  if_neg fun e => h (BitVec.eq_of_toNat_eq e)

theorem exec_edivs_eq {s : State} (h : s.ix ≠ 0#16) :
    exec .edivs s =
      if 0x7FFF < s.ed.toInt.tdiv s.ix.toInt ∨ s.ed.toInt.tdiv s.ix.toInt < -0x8000 then divideOverflow s
      else divideResult (BitVec.ofInt 16 (s.ed.toInt.tdiv s.ix.toInt)) (BitVec.ofInt 16 (s.ed.toInt.tmod s.ix.toInt))
        (decide (s.ix.toInt.natAbs ≤ 2 * (s.ed.toInt.tmod s.ix.toInt).natAbs)) s :=
  if_neg fun e => h (BitVec.eq_of_toInt_eq e)

theorem exec_ediv_spec {s : State} (h : s.ix ≠ 0#16) :
    ∃ t, exec .ediv s = .next t ∧ GoesOn .ediv s t ∧ Frame [.ix, .a, .b, .n, .z, .v, .c] [] s t ∧
      if s.ed.toNat / s.ix.toNat ≤ 0xFFFF then
        t.ix.toNat = s.ed.toNat / s.ix.toNat ∧ t.d.toNat = s.ed.toNat % s.ix.toNat ∧ IsResult t.ix t.ccr ∧
          t.ccr.c = decide (s.ix.toNat ≤ 2 * t.d.toNat)
      else t.ccr.v = true := by
  have hx := exec_ediv_eq h
  by_cases fits : s.ed.toNat / s.ix.toNat ≤ 0xFFFF
  · rw [if_neg (by omega)] at hx
    obtain ⟨t, hx, hg, hf, hq, hr, hn, hc⟩ := exec_divideResult hx rfl
    have pos : 0 < s.ix.toNat := Nat.pos_of_ne_zero fun e => h (BitVec.eq_of_toNat_eq e)
    have small := Nat.mod_lt s.ed.toNat pos
    have := s.ix.isLt
    have rem : t.d.toNat = s.ed.toNat % s.ix.toNat := by
      rw [hr, BitVec.toNat_ofNat, Nat.mod_eq_of_lt (by omega)]
    refine ⟨t, hx, hg, hf, ?_⟩
    rw [if_pos fits, rem]
    exact ⟨by rw [hq, BitVec.toNat_ofNat, Nat.mod_eq_of_lt (by omega)], rfl, hn, hc⟩
  · rw [if_pos (by omega)] at hx
    obtain ⟨t, hx, hg, hf, hv⟩ := exec_divideOverflow hx rfl
    refine ⟨t, hx, hg, hf, ?_⟩
    rwa [if_neg fits]

theorem exec_edivs_spec {s : State} (h : s.ix ≠ 0#16) :
    ∃ t, exec .edivs s = .next t ∧ GoesOn .edivs s t ∧ Frame [.ix, .a, .b, .n, .z, .v, .c] [] s t ∧
      if outOfRange 16 (s.ed.toInt.tdiv s.ix.toInt) then t.ccr.v = true
      else
        t.ix.toInt = s.ed.toInt.tdiv s.ix.toInt ∧ t.d.toInt = s.ed.toInt.tmod s.ix.toInt ∧ IsResult t.ix t.ccr ∧
          t.ccr.c = decide (s.ix.toInt.natAbs ≤ 2 * t.d.toInt.natAbs) := by
  have hx := exec_edivs_eq h
  have range : outOfRange 16 (s.ed.toInt.tdiv s.ix.toInt) = true ↔
      0x7FFF < s.ed.toInt.tdiv s.ix.toInt ∨ s.ed.toInt.tdiv s.ix.toInt < -0x8000 := by
    simp only [outOfRange, Bool.or_eq_true, decide_eq_true_eq]
    omega
  by_cases out : outOfRange 16 (s.ed.toInt.tdiv s.ix.toInt) = true
  · rw [if_pos (range.mp out)] at hx
    obtain ⟨t, hx, hg, hf, hv⟩ := exec_divideOverflow hx rfl
    refine ⟨t, hx, hg, hf, ?_⟩
    rwa [if_pos out]
  · have fits := mt range.mpr out
    rw [if_neg fits] at hx
    obtain ⟨t, hx, hg, hf, hq, hr, hn, hc⟩ := exec_divideResult hx rfl
    have pos : 0 < s.ix.toInt.natAbs := Int.natAbs_pos.mpr fun e => h (BitVec.eq_of_toInt_eq e)
    have small : (s.ed.toInt.tmod s.ix.toInt).natAbs < s.ix.toInt.natAbs := by
      rw [Int.natAbs_tmod]
      exact Nat.mod_lt _ pos
    have lower := s.ix.le_toInt
    have upper := s.ix.toInt_lt
    simp only [Nat.reduceSub] at lower upper
    have rem : t.d.toInt = s.ed.toInt.tmod s.ix.toInt := by
      rw [hr, BitVec.toInt_ofInt_eq_self (by decide) (by omega) (by omega)]
    refine ⟨t, hx, hg, hf, ?_⟩
    rw [if_neg out, rem]
    exact ⟨by rw [hq, BitVec.toInt_ofInt_eq_self (by decide) (by omega) (by omega)], rfl, hn, hc⟩

/-- Settles O50. -/
theorem extendedDivision : Obligations.ExtendedDivision := fun _ h => ⟨exec_ediv_spec h, exec_edivs_spec h⟩

/-! ### Division by zero -/

/-- The division exception: the flags are free, and the entry is that of every exception (42_mul_div_inc_clr.md R291;
60_exceptions.md R686). -/
theorem divideByZero_entered {s : State} (hi : s.Inv) (hq : s.Quiet) :
    ∃ t n z v c, divideByZero s = .next t ∧
      Entered 8 (s.pc + 8) s.ccr.ip [] { s with ccr := { s.ccr with n := n, z := z, v := v, c := c } } t := by
  have uq : (s.looseDivFlags none).Quiet := hq.of_platform rfl
  obtain ⟨stacked, goes, ip, run, inhibit, frame⟩ :=
    uq.takeException_plain hi.mem_wf .divZero (.inr (.inr (.inr rfl))) (s.pc + 8)
  exact ⟨_, _, _, _, _, rfl, stacked, goes, ip, run, inhibit, frame.parts, frame.data, frame.program⟩

/-- Settles O51. -/
theorem divisionByZero : Obligations.DivisionByZero := by
  unfold Obligations.DivisionByZero
  simp only [List.forall_mem_cons]
  refine ⟨fun s hi hq h => ?_, fun s hi hq h => ?_, List.forall_mem_nil _⟩
  · have hx : exec .ediv s = divideByZero s := if_pos (congrArg BitVec.toNat h)
    rw [hx]
    exact divideByZero_entered hi hq
  · have hx : exec .edivs s = divideByZero s := if_pos (congrArg BitVec.toInt h)
    rw [hx]
    exact divideByZero_entered hi hq

/-! ### Short division -/

/-- The whole effect of an instruction that writes IX, D and Z, V, C, whatever free values it uses up. -/
theorem exec_shortDivide {i : Instr} {q r : Word} {z v c : Bool} {d : Nat} {s : State}
    (hx : exec i s = .next (((setR16 .d r (setR16 .ix q { s with draws := d })).setFlags
      { s.ccr with z := z, v := v, c := c }).advance 2)) (hl : 2 = BitVec.ofNat 20 i.length) :
    ∃ t, exec i s = .next t ∧ GoesOn i s t ∧ Frame [.ix, .a, .b, .z, .v, .c] [] s t ∧ t.ccr.z = z ∧ t.ccr.v = v ∧
      t.ccr.c = c ∧ t.ix = q ∧ t.d = r := by
  have draws : Working [] [] s { s with draws := d } :=
    ⟨rfl, rfl, rfl, Frame.of_parts rfl rfl rfl fun l _ => by cases l <;> first | exact rfl | exact ⟨rfl, rfl⟩⟩
  have w := (draws.setR16 .ix q).setR16 .d r
  exact ⟨_, hx, w.goesOn _ hl, w.finish (FlagFrame.zvc ..) 2, rfl, rfl, rfl, rfl, hi_append_lo r⟩

theorem exec_idiv_zero {s : State} (h : s.ix = 0#16) :
    exec .idiv s = .next (((setR16 .d (Config.anyWord s.draws) (setR16 .ix 0xFFFF#16
      { s with draws := s.draws + 1 })).setFlags { s.ccr with z := false, v := false, c := true }).advance 2) :=
  if_pos (congrArg BitVec.toNat h)

theorem exec_idiv_nonzero {s : State} (h : s.ix ≠ 0#16) :
    exec .idiv s = .next (((setR16 .d (BitVec.ofNat 16 (s.d.toNat % s.ix.toNat))
      (setR16 .ix (BitVec.ofNat 16 (s.d.toNat / s.ix.toNat)) { s with draws := s.draws })).setFlags
        { s.ccr with z := BitVec.ofNat 16 (s.d.toNat / s.ix.toNat) == 0#16, v := false, c := false }).advance 2) :=
  if_neg fun e => h (BitVec.eq_of_toNat_eq e)

theorem exec_idiv_spec (s : State) :
    ∃ t, exec .idiv s = .next t ∧ GoesOn .idiv s t ∧ Frame [.ix, .a, .b, .z, .v, .c] [] s t ∧
      t.ccr.z = decide (t.ix.toNat = 0) ∧ t.ccr.v = false ∧ t.ccr.c = decide (s.ix = 0#16) ∧
      if s.ix = 0#16 then t.ix = 0xFFFF#16
      else t.ix.toNat = s.d.toNat / s.ix.toNat ∧ t.d.toNat = s.d.toNat % s.ix.toNat := by
  by_cases h : s.ix = 0#16
  · obtain ⟨t, hx, hg, hf, hz, hv, hc, hq, -⟩ := exec_shortDivide (exec_idiv_zero h) rfl
    refine ⟨t, hx, hg, hf, ?_, hv, ?_, ?_⟩
    · rw [hz, hq]
      rfl
    · rw [hc, decide_eq_true h]
    · rwa [if_pos h]
  · obtain ⟨t, hx, hg, hf, hz, hv, hc, hq, hr⟩ := exec_shortDivide (exec_idiv_nonzero h) rfl
    have pos : 0 < s.ix.toNat := Nat.pos_of_ne_zero fun e => h (BitVec.eq_of_toNat_eq e)
    have small := Nat.mod_lt s.d.toNat pos
    have quotient := Nat.div_le_self s.d.toNat s.ix.toNat
    have := s.d.isLt
    have := s.ix.isLt
    refine ⟨t, hx, hg, hf, ?_, hv, ?_, ?_⟩
    · rw [hz, hq, beq_zero]
    · rw [hc, decide_eq_false h]
    · rw [if_neg h, hq, hr, BitVec.toNat_ofNat, BitVec.toNat_ofNat, Nat.mod_eq_of_lt (by omega),
        Nat.mod_eq_of_lt (by omega)]
      exact ⟨rfl, rfl⟩

theorem exec_fdiv_overflow {s : State} (h : s.ix.toNat ≤ s.d.toNat) :
    exec .fdiv s = .next (((setR16 .d (Config.anyWord s.draws) (setR16 .ix 0xFFFF#16
      { s with draws := s.draws + 1 })).setFlags
        { s.ccr with z := false, v := true, c := decide (s.ix.toNat = 0) }).advance 2) :=
  if_pos h

theorem exec_fdiv_fits {s : State} (h : ¬s.ix.toNat ≤ s.d.toNat) :
    exec .fdiv s = .next (((setR16 .d (BitVec.ofNat 16 (s.d.toNat * 65536 % s.ix.toNat))
      (setR16 .ix (BitVec.ofNat 16 (s.d.toNat * 65536 / s.ix.toNat)) { s with draws := s.draws })).setFlags
        { s.ccr with
          z := BitVec.ofNat 16 (s.d.toNat * 65536 / s.ix.toNat) == 0#16, v := false, c := false }).advance 2) :=
  if_neg h

theorem exec_fdiv_spec (s : State) :
    ∃ t, exec .fdiv s = .next t ∧ GoesOn .fdiv s t ∧ Frame [.ix, .a, .b, .z, .v, .c] [] s t ∧
      t.ccr.z = decide (t.ix.toNat = 0) ∧ t.ccr.v = decide (s.ix.toNat ≤ s.d.toNat) ∧
      t.ccr.c = decide (s.ix = 0#16) ∧
      if s.ix.toNat ≤ s.d.toNat then t.ix = 0xFFFF#16
      else
        t.ix.toNat = s.d.toNat * 65536 / s.ix.toNat ∧ t.d.toNat = s.d.toNat * 65536 % s.ix.toNat := by
  by_cases h : s.ix.toNat ≤ s.d.toNat
  · obtain ⟨t, hx, hg, hf, hz, hv, hc, hq, -⟩ := exec_shortDivide (exec_fdiv_overflow h) rfl
    refine ⟨t, hx, hg, hf, ?_, ?_, ?_, ?_⟩
    · rw [hz, hq]
      rfl
    · rw [hv, decide_eq_true h]
    · rw [hc, decide_eq_decide]
      exact ⟨fun e => BitVec.eq_of_toNat_eq e, fun e => congrArg BitVec.toNat e⟩
    · rwa [if_pos h]
  · obtain ⟨t, hx, hg, hf, hz, hv, hc, hq, hr⟩ := exec_shortDivide (exec_fdiv_fits h) rfl
    have less : s.d.toNat < s.ix.toNat := Nat.lt_of_not_le h
    have small := Nat.mod_lt (s.d.toNat * 65536) (by omega : 0 < s.ix.toNat)
    have quotient : s.d.toNat * 65536 / s.ix.toNat < 65536 := by
      rw [Nat.div_lt_iff_lt_mul (by omega)]
      omega
    have nonzero : s.ix ≠ 0#16 := fun e => by rw [e] at less; exact Nat.not_lt_zero _ less
    have := s.ix.isLt
    refine ⟨t, hx, hg, hf, ?_, ?_, ?_, ?_⟩
    · rw [hz, hq, beq_zero]
    · rw [hv, decide_eq_false h]
    · rw [hc, decide_eq_false nonzero]
    · rw [if_neg h, hq, hr, BitVec.toNat_ofNat, BitVec.toNat_ofNat, Nat.mod_eq_of_lt (by omega),
        Nat.mod_eq_of_lt (by omega)]
      exact ⟨rfl, rfl⟩

/-- Settles O52. -/
theorem shortDivision : Obligations.ShortDivision := fun s => ⟨exec_idiv_spec s, exec_fdiv_spec s⟩

/-! ### Decimal adjust and sign extension -/

/-- Two decimal digits of a sum of digit sums. -/
theorem decimal_digits {l h : Nat} (hl : l ≤ 18) (hh : h ≤ 18) :
    (10 * h + l) % 10 = (if 10 ≤ l then l - 10 else l) ∧
      (10 * h + l) % 100 / 10 = (h + if 10 ≤ l then 1 else 0) - if 100 ≤ 10 * h + l then 10 else 0 := by
  constructor
  · split <;> omega
  · split_ifs <;> omega

/-- After the sum of two bytes with digit sums `h` and `l`, the low digit is corrected by 6 where it carries, and the
high one by $60 (41_add_sub_compare.md R261). -/
theorem daa_spec {l h : Nat} (hl : l ≤ 18) (hh : h ≤ 18) {a : Byte} {c : Ccr} (ha : a.toNat = (16 * h + l) % 256)
    (half : c.h = decide (16 ≤ l)) (carry : c.c = decide (256 ≤ 16 * h + l)) :
    (daaValue a c).toNat = 16 * ((10 * h + l) % 100 / 10) + (10 * h + l) % 10 ∧
      daaHigh a c = decide (100 ≤ 10 * h + l) := by
  have low : daaLow a c = decide (10 ≤ l) := by
    rw [daaLow, half, ha, Bool.eq_iff_iff]
    simp only [Bool.or_eq_true, decide_eq_true_eq]
    omega
  have high : daaHigh a c = decide (100 ≤ 10 * h + l) := by
    rw [daaHigh, carry, ha, Bool.eq_iff_iff]
    simp only [Bool.or_eq_true, Bool.and_eq_true, decide_eq_true_eq]
    omega
  obtain ⟨ones, tens⟩ := decimal_digits hl hh
  refine ⟨?_, high⟩
  rw [daaValue, low, high, ones, tens]
  simp only [decide_eq_true_eq, BitVec.toNat_add, ha]
  split_ifs <;> simp only [BitVec.toNat_ofNat] <;> omega

theorem exec_daa_spec (s : State) :
    ∃ t, exec .daa s = .next t ∧ GoesOn .daa s t ∧ t.a = daaValue s.a s.ccr ∧ t.ccr.c = daaHigh s.a s.ccr ∧
      SetsNZ t.a t.ccr ∧ Frame [.a, .n, .z, .v, .c] [] s t := by
  have bump : Working [] [] s s.bump :=
    ⟨rfl, rfl, rfl, Frame.of_parts rfl rfl rfl fun l _ => by cases l <;> first | exact rfl | exact ⟨rfl, rfl⟩⟩
  have w := bump.setR8 .a (daaValue s.a s.ccr)
  exact ⟨_, rfl, w.goesOn _ rfl, rfl, rfl, setsNZ_mk _ _ rfl rfl, w.finish (FlagFrame.nzvc ..) 2⟩

/-- A byte beside copies of its sign bit keeps its value. -/
theorem toInt_sign_append (b : Byte) :
    ((if b.msb then 0xFF#8 else 0x00#8) ++ b : Word).toInt = b.toInt := by
  have := b.isLt
  rw [toInt_cases (by decide), toInt_cases (by decide), toNat_bytes, msb_eq_le]
  simp only [decide_eq_true_eq, Nat.reduceSub]
  split_ifs <;> simp_all <;> omega

theorem exec_sxt_spec (s : State) :
    ∃ t, exec .sxt s = .next t ∧ GoesOn .sxt s t ∧ t.d.toInt = s.b.toInt ∧ SetsNZ t.a t.ccr ∧
      Frame [.a, .n, .z] [] s t := by
  have w := (Working.refl s).setR8 .a (if s.b.msb then 0xFF#8 else 0x00#8)
  exact ⟨_, rfl, w.goesOn _ rfl, toInt_sign_append s.b, setsNZ_mk _ _ rfl rfl, w.finish (FlagFrame.nz ..) 2⟩

/-- Settles O53: after ABA, A and the carries are those of the digits. -/
theorem decimalAdjust : Obligations.DecimalAdjust := by
  refine ⟨fun s t x1 x0 y1 y0 hx1 hx0 hy1 hy0 ha hb hx => ?_, fun s => ⟨?_, exec_sxt_spec s⟩⟩
  · obtain ⟨t', hx', -, ⟨sum, -, -, carry⟩, half, -⟩ := exec_aba_spec s
    obtain rfl : t' = t := by simpa [hx'] using hx
    obtain ⟨u, ux, ug, ua, uc, -, -⟩ := exec_daa_spec t'
    obtain ⟨value, high⟩ := daa_spec (l := x0 + y0) (h := x1 + y1) (c := t'.ccr) (by omega) (by omega)
      (sum.trans (by rw [ha, hb, Bool.toNat_false]; omega)) (half.trans (decide_eq_decide.mpr (by omega)))
      (carry.trans (decide_eq_decide.mpr (by rw [ha, hb, Bool.toNat_false]; omega)))
    have total : 10 * (x1 + y1) + (x0 + y0) = 10 * x1 + x0 + (10 * y1 + y0) := by omega
    rw [total] at value high
    exact ⟨u, ux, ug, by rw [ua, value], by rw [uc, high]⟩
  · obtain ⟨t, hx, hg, -, -, hn, hf⟩ := exec_daa_spec s
    exact ⟨t, hx, hg, hn, hf⟩

end Sys2Proof.Machine
end

section
/-!
PROOFS. The MAC unit without MAC and RMAC: transfers, additions to AM, shifts of AM, rounding and saturation (47_dsp.md).
-/

namespace Sys2Proof.Machine

/-! ### Fields as integers -/

/-- A signed number by its top field and the bits below. -/
theorem toInt_eq_high_low {m n w : Nat} (hm : 0 < m) (hw : w = m + n) (v : BitVec w) :
    v.toInt = 2 ^ n * (v.extractLsb' n m).toInt + (v.extractLsb' 0 n).toNat := by
  subst hw
  have parts : v.extractLsb' n m ++ v.extractLsb' 0 n = v := by
    rw [BitVec.extractLsb'_append_extractLsb'_eq_extractLsb' (by omega)]
    exact BitVec.extractLsb'_eq_self
  have value := congrArg BitVec.toInt parts
  rw [BitVec.toInt_append, if_neg (by simp; omega)] at value
  exact value.symm

/-- The top field of a signed number is its floor quotient. -/
theorem toInt_extractLsb'_high {m n w : Nat} (hm : 0 < m) (hw : w = m + n) (v : BitVec w) :
    (v.extractLsb' n m).toInt = v.toInt / 2 ^ n := by
  have low := (v.extractLsb' 0 n).isLt
  have pos : (0 : Int) < 2 ^ n := by positivity
  have cast : ((2 ^ n : Nat) : Int) = 2 ^ n := by push_cast; rfl
  rw [toInt_eq_high_low hm hw v, Int.mul_add_ediv_left _ _ (by omega), Int.ediv_eq_zero_of_lt (by omega) (by omega),
    Int.add_zero]

/-- Five bits are all equal where they stand for 0 or -1. -/
theorem extOverflow_eq_decide (v : BitVec 5) : extOverflow v = !decide (v.toInt = 0 ∨ v.toInt = -1) := by
  revert v
  decide

/-- The five top bits of a number are not all equal where it needs more than the bits from the lowest of them down. -/
theorem extOverflow_eq {n w : Nat} (hw : w = 5 + n) (v : BitVec w) :
    extOverflow (v.extractLsb' n 5) = outOfRange (n + 1) v.toInt := by
  have pos : (0 : Int) < 2 ^ n := by positivity
  have quotient := Int.mul_ediv_self_le (x := v.toInt) (k := 2 ^ n) (by omega)
  have rest := Int.lt_mul_ediv_self_add (x := v.toInt) pos
  rw [extOverflow_eq_decide, toInt_extractLsb'_high (by decide) hw, outOfRange, Bool.eq_iff_iff]
  simp only [Nat.add_sub_cancel, Bool.not_eq_true', decide_eq_false_iff_not, Bool.or_eq_true, decide_eq_true_eq]
  generalize v.toInt / 2 ^ n = q at *
  generalize (2 : Int) ^ n = p at *
  have above : 0 < q → p ≤ p * q := fun h => le_mul_of_one_le_right pos.le h
  have below : q < -1 → p * q ≤ p * -2 := fun h => mul_le_mul_of_nonneg_left (by omega) pos.le
  constructor
  · intro h
    rcases lt_trichotomy q 0 with negative | zero | positive
    · have := below (by omega)
      omega
    · omega
    · have := above positive
      omega
  · rintro h (rfl | rfl) <;> omega

/-! ### Additions to AM -/

theorem signOverflow_eq (x : Int) : signOverflow x = outOfRange 36 x := rfl

/-- AM as the sum on 36 bits, and its sign where the sum leaves 36 bits by less than one turn. -/
theorem msb_ofInt_of_lost {x : Int} (lower : -2 ^ 36 ≤ x) (upper : x < 2 ^ 36) (lost : outOfRange 36 x = true) :
    (BitVec.ofInt 36 x).msb = decide (0 ≤ x) := by
  simp only [outOfRange, Bool.or_eq_true, decide_eq_true_eq, Nat.reduceSub] at lost
  rw [msb_eq_le, BitVec.toNat_ofInt, decide_eq_decide]
  omega

/-- The whole effect of an addition to AM (47_dsp.md R571). -/
theorem amAdd_accumulates {x : Int} {s : State} (lower : -2 ^ 35 ≤ x) (upper : x ≤ 2 ^ 35) :
    Accumulates x s (amAdd x s) := by
  have amLower := s.mac.am.le_toInt
  have amUpper := s.mac.am.toInt_lt
  simp only [Nat.reduceSub] at amLower amUpper
  refine ⟨rfl, ?_, rfl, ?_⟩
  · have ev : (amAdd x s).ccr.ev = (extOverflow (guardBits (BitVec.ofInt 36 (s.mac.am.toInt + x))) ||
        signOverflow (s.mac.am.toInt + x)) := rfl
    rw [ev, guardBits, extOverflow_eq (by decide), Bool.or_comm]
    rfl
  · have sl : (amAdd x s).mac.sl = if outOfRange 36 (s.mac.am.toInt + x) && !s.ccr.mv then
        (BitVec.ofInt 36 (s.mac.am.toInt + x)).msb else s.mac.sl := rfl
    rw [sl]
    cases lost : outOfRange 36 (s.mac.am.toInt + x) with
    | false => rfl
    | true => rw [msb_ofInt_of_lost (by omega) (by omega) lost]

theorem Frame.amAdd (x : Int) (s : State) : Frame [.am, .ev, .mv, .sl] [] s (amAdd x s) :=
  Frame.of_parts rfl rfl rfl fun l h => by
    cases l <;> first | exact absurd (by decide) h | exact rfl | exact ⟨rfl, rfl⟩

/-- A later state with the same AM, EV, MV and SL accumulates the same. -/
theorem Accumulates.congr {x : Int} {s t u : State} (h : Accumulates x s t) (am : u.mac.am = t.mac.am)
    (ev : u.ccr.ev = t.ccr.ev) (mv : u.ccr.mv = t.ccr.mv) (sl : u.mac.sl = t.mac.sl) : Accumulates x s u := by
  obtain ⟨hAm, hEv, hMv, hSl⟩ := h
  exact ⟨am.trans hAm, by rw [ev, hEv, am], mv.trans hMv, sl.trans hSl⟩

theorem goesOn_amAdd {i : Instr} (x : Int) (s : State) (length : i.length = 2) :
    GoesOn i s ((amAdd x s).advance 2) := by
  rw [GoesOn, State.advance_pc, length]
  rfl

theorem exec_amAdd {i : Instr} {x : Int} {s : State} (hx : exec i s = .next ((amAdd x s).advance 2))
    (length : i.length = 2) (lower : -2 ^ 35 ≤ x) (upper : x ≤ 2 ^ 35) :
    ∃ t, exec i s = .next t ∧ GoesOn i s t ∧ Accumulates x s t ∧ Frame [.am, .ev, .mv, .sl] [] s t := by
  refine ⟨_, hx, goesOn_amAdd x s length, ?_, (Frame.amAdd x s).then_advance rfl 2⟩
  exact (amAdd_accumulates lower upper).congr rfl rfl rfl rfl

theorem exec_ace_spec (s : State) :
    ∃ t, exec .ace s = .next t ∧ GoesOn .ace s t ∧ Accumulates (s.e.toInt * 65536) s t ∧
      Frame [.am, .ev, .mv, .sl] [] s t := by
  have lower := s.e.le_toInt
  have upper := s.e.toInt_lt
  simp only [Nat.reduceSub] at lower upper
  exact exec_amAdd rfl rfl (by omega) (by omega)

theorem exec_aced_spec (s : State) :
    ∃ t, exec .aced s = .next t ∧ GoesOn .aced s t ∧ Accumulates s.ed.toInt s t ∧ Frame [.am, .ev, .mv, .sl] [] s t := by
  have lower := s.ed.le_toInt
  have upper := s.ed.toInt_lt
  simp only [Nat.reduceSub] at lower upper
  exact exec_amAdd rfl rfl (by omega) (by omega)

/-! ### Shifts of AM -/

theorem FlagFrame.nc (c : Ccr) (n b : Bool) : FlagFrame [.n, .c] c { c with n := n, c := b } := by
  refine ⟨fun s hs => ?_⟩
  subst hs
  exact Frame.of_parts rfl rfl rfl fun l h => by
    cases l <;> first | exact absurd (by decide) h | exact rfl | exact ⟨rfl, rfl⟩

/-- Doubling AM is adding it to itself. -/
theorem shiftLeft_eq_ofInt (am : Acc) : am <<< 1 = BitVec.ofInt 36 (am.toInt + am.toInt) := by
  refine BitVec.eq_of_toNat_eq ?_
  rw [toNat_shl_one, BitVec.toNat_ofInt, toInt_cases (by decide)]
  split <;> omega

/-- Doubling AM loses its sign where the double leaves 36 bits. -/
theorem signChange_eq (am : Acc) : (!((am <<< 1).msb == am.msb)) = signOverflow (am.toInt + am.toInt) := by
  rw [signOverflow_eq, outOfRange, msb_eq_le, msb_eq_le, toNat_shl_one, toInt_cases (by decide), Bool.eq_iff_iff]
  have := am.isLt
  simp only [Bool.not_eq_true', beq_eq_false_iff_ne, ne_eq, decide_eq_decide, Bool.or_eq_true, decide_eq_true_eq,
    Nat.reduceSub]
  split <;> omega

/-- ASLM is the addition of AM to itself, with N and C (47_dsp.md R577). -/
theorem exec_aslm (s : State) :
    exec .aslm s = .next (((amAdd s.mac.am.toInt s).setFlags { (amAdd s.mac.am.toInt s).ccr with
      n := (amAdd s.mac.am.toInt s).mac.am.msb, c := s.mac.am.msb }).advance 2) := by
  have hx : exec .aslm s = execAslm s := rfl
  rw [hx, execAslm]
  dsimp only
  rw [signChange_eq, shiftLeft_eq_ofInt]
  rfl

theorem exec_aslm_spec (s : State) :
    ∃ t, exec .aslm s = .next t ∧ GoesOn .aslm s t ∧ Accumulates s.mac.am.toInt s t ∧
      t.ccr.n = decide (t.mac.am.toInt < 0) ∧ t.ccr.c = decide (s.mac.am.toInt < 0) ∧
      Frame [.am, .ev, .mv, .sl, .n, .c] [] s t := by
  have lower := s.mac.am.le_toInt
  have upper := s.mac.am.toInt_lt
  simp only [Nat.reduceSub] at lower upper
  have flags := (Frame.amAdd s.mac.am.toInt s).trans rfl ((FlagFrame.nc (amAdd s.mac.am.toInt s).ccr
    (amAdd s.mac.am.toInt s).mac.am.msb s.mac.am.msb).frame _ rfl)
  exact ⟨_, exec_aslm s, rfl, (amAdd_accumulates lower upper.le).congr rfl rfl rfl rfl,
    msb_eq_neg (amAdd s.mac.am.toInt s).mac.am, msb_eq_neg s.mac.am,
    flags.then_advance rfl 2⟩

theorem exec_asrm_spec (s : State) :
    ∃ t, exec .asrm s = .next t ∧ GoesOn .asrm s t ∧ t.mac.am.toInt = s.mac.am.toInt / 2 ∧
      t.ccr.ev = outOfRange 32 t.mac.am.toInt ∧ t.ccr.n = decide (t.mac.am.toInt < 0) ∧
      t.ccr.c = decide (s.mac.am.toNat % 2 = 1) ∧ Frame [.am, .ev, .n, .c] [] s t := by
  refine ⟨_, rfl, rfl, ?_, extOverflow_eq (by decide) (s.mac.am.sshiftRight 1),
    msb_eq_neg (s.mac.am.sshiftRight 1), getLsbD_zero_parity s.mac.am, ?_⟩
  · exact (BitVec.toInt_sshiftRight).trans (Int.shiftRight_eq_div_pow _ 1)
  · exact Frame.of_parts rfl rfl rfl fun l h => by
      cases l <;> first | exact absurd (by decide) h | exact rfl | exact ⟨rfl, rfl⟩

/-- Settles O57: ACE, ACED and ASLM are additions to AM, and ASRM is a floor division. -/
theorem accumulatorM : Obligations.AccumulatorM := fun s =>
  ⟨exec_ace_spec s, exec_aced_spec s, exec_aslm_spec s, exec_asrm_spec s⟩

/-! ### Loading and reading the MAC unit -/

theorem State.Quiet.exec_ldhi {s : State} (quiet : s.Quiet) :
    exec .ldhi s = .next ({ s with mac := { s.mac with
      hr := s.peekWord .data (s.pointer .x), ir := s.peekWord .data (s.pointer .y) } }.advance 2) := by
  have hx : exec .ldhi s = execLdhi s := rfl
  rw [hx, execLdhi, quiet.readWord]
  dsimp only
  rw [quiet.readWord]

theorem exec_ldhi_spec (s : State) (quiet : s.Quiet) :
    ∃ t, exec .ldhi s = .next t ∧ GoesOn .ldhi s t ∧ t.mac.hr = s.peekWord .data (s.pointer .x) ∧
      t.mac.ir = s.peekWord .data (s.pointer .y) ∧ Frame [.hr, .ir] [] s t :=
  ⟨_, quiet.exec_ldhi, rfl, rfl, rfl, Frame.of_parts rfl rfl rfl fun l h => by
    cases l <;> first | exact absurd (by decide) h | exact rfl | exact ⟨rfl, rfl⟩⟩

theorem exec_tdmsk_spec (s : State) :
    ∃ t, exec .tdmsk s = .next t ∧ GoesOn .tdmsk s t ∧ t.mac.xmsk = s.a ∧ t.mac.ymsk = s.b ∧
      Frame [.xmsk, .ymsk] [] s t :=
  ⟨_, rfl, rfl, rfl, rfl, Frame.of_parts rfl rfl rfl fun l h => by
    cases l <;> first | exact absurd (by decide) h | exact rfl | exact ⟨rfl, rfl⟩⟩

theorem Frame.loadAm (am : Acc) (s : State) : Frame [.am, .mv, .ev] [] s (loadAm am s) :=
  Frame.of_parts rfl rfl rfl fun l h => by
    cases l <;> first | exact absurd (by decide) h | exact rfl | exact ⟨rfl, rfl⟩

/-- TEDM, TEM and CLRM: an instruction of one word that loads AM (47_dsp.md R579, R588, R589). -/
theorem exec_loadAm {i : Instr} {am : Acc} {s : State} {x : Int} (hx : exec i s = .next ((loadAm am s).advance 2))
    (length : i.length = 2) (value : am.toInt = x) :
    ∃ t, exec i s = .next t ∧ GoesOn i s t ∧ t.mac.am.toInt = x ∧ t.ccr.mv = false ∧ t.ccr.ev = false ∧
      Frame [.am, .mv, .ev] [] s t := by
  refine ⟨_, hx, ?_, value, rfl, rfl, (Frame.loadAm am s).then_advance rfl 2⟩
  rw [GoesOn, length]
  rfl

theorem toInt_append_zero_word (v : Word) : (v ++ 0#16).toInt = v.toInt * 65536 := by
  rw [BitVec.toInt_append, if_neg (by decide)]
  simp only [BitVec.toNat_zero]
  omega

theorem State.advance_d (len : Addr) (s : State) : (s.advance len).d = s.d := rfl

theorem exec_tmxed_spec (s : State) :
    ∃ t, exec .tmxed s = .next t ∧ GoesOn .tmxed s t ∧
      t.ix.toInt * 2 ^ 32 + t.e.toNat * 2 ^ 16 + t.d.toNat = s.mac.am.toInt ∧ Frame [.ix, .e, .a, .b] [] s t := by
  refine ⟨_, rfl, rfl, ?_, Frame.of_parts rfl rfl rfl fun l h => by
    cases l <;> first | exact absurd (by decide) h | exact rfl | exact ⟨rfl, rfl⟩⟩
  have extended : ((s.mac.am.extractLsb' 32 4).signExtend 16).toInt = (s.mac.am.extractLsb' 32 4).toInt :=
    BitVec.toInt_signExtend_of_le (by decide)
  simp only [State.advance_ix, State.advance_e, State.advance_d, State.d_setD, State.setD_ix, State.setD_e, extended]
  rw [toInt_eq_high_low (n := 32) (m := 4) (by decide) (by decide) s.mac.am]
  simp only [BitVec.extractLsb'_toNat, Nat.shiftRight_eq_div_pow]
  omega

/-- Settles O56: LDHI reads two words, and TEDM, TEM and CLRM each load AM with a number of known value. -/
theorem macTransfers : Obligations.MacTransfers := by
  intro s
  refine ⟨exec_ldhi_spec s, exec_tdmsk_spec s, ?_, exec_tmxed_spec s⟩
  simp only [List.forall_mem_cons, List.not_mem_nil, false_implies, implies_true, and_true]
  refine ⟨exec_loadAm rfl rfl ?_, exec_loadAm rfl rfl ?_, exec_loadAm rfl rfl rfl⟩
  · exact BitVec.toInt_signExtend_of_le (by decide)
  · exact (BitVec.toInt_signExtend_of_le (by decide)).trans (toInt_append_zero_word s.e)

/-! ### Rounding and saturation -/

theorem extractLsb'_zero_ofInt (x : Int) : (BitVec.ofInt 20 x).extractLsb' 0 16 = BitVec.ofInt 16 x := by
  refine BitVec.eq_of_toNat_eq ?_
  rw [BitVec.extractLsb'_toNat, BitVec.toNat_ofInt, BitVec.toNat_ofInt, Nat.shiftRight_zero]
  omega

/-- AM[31:16] as the low word of the floor quotient of AM. -/
theorem extractLsb'_am_eq (am : Acc) : am.extractLsb' 16 16 = BitVec.ofInt 16 (am.toInt / 65536) := by
  refine BitVec.eq_of_toNat_eq ?_
  rw [BitVec.extractLsb'_toNat, BitVec.toNat_ofInt, toInt_cases (by decide), Nat.shiftRight_eq_div_pow]
  split <;> omega

/-- When convergent rounding goes up (47_dsp.md R591). -/
theorem roundsUp_eq (am : Acc) :
    roundsUp am = decide (0x8000 < am.toNat % 65536 ∨ am.toNat % 65536 = 0x8000 ∧ am.toInt / 65536 % 2 = 1) := by
  have parity : am.getLsbD 16 = decide (am.toInt / 65536 % 2 = 1) := by
    rw [BitVec.getLsbD, Nat.testBit_eq_decide_div_mod_eq, toInt_cases (by decide), decide_eq_decide]
    have := am.isLt
    split <;> omega
  have low : (am.extractLsb' 0 16).toNat = am.toNat % 65536 := by
    rw [BitVec.extractLsb'_toNat, Nat.shiftRight_zero]
  have tie : (am.extractLsb' 0 16 == 0x8000#16) = decide (am.toNat % 65536 = 0x8000) := by
    rw [← low, Bool.eq_iff_iff, beq_iff_eq, decide_eq_true_eq, ← BitVec.toNat_inj]
    rfl
  rw [roundsUp, low, tie, parity]
  simp only [Bool.decide_or, Bool.decide_and]

theorem roundedHigh_eq (am : Acc) :
    roundedHigh am = if 0x8000 < am.toNat % 65536 ∨ am.toNat % 65536 = 0x8000 ∧ am.toInt / 65536 % 2 = 1 then
      am.toInt / 65536 + 1 else am.toInt / 65536 := by
  have high := toInt_extractLsb'_high (n := 16) (m := 20) (by decide) (by decide) am
  rw [roundedHigh, high, roundsUp_eq]
  split <;> simp [*]

/-- The range of the rounded value: 20 bits, and the first number above them (47_dsp.md R591). -/
theorem roundedHigh_bounds (am : Acc) : -2 ^ 19 ≤ roundedHigh am ∧ roundedHigh am ≤ 2 ^ 19 := by
  have lower := am.le_toInt
  have upper := am.toInt_lt
  simp only [Nat.reduceSub] at lower upper
  rw [roundedHigh_eq]
  split <;> constructor <;> omega

/-- EV of TMER: the rounded value leaves AM[31:16] (47_dsp.md R591). -/
theorem extOverflow_rounded {x : Int} (lower : -2 ^ 19 ≤ x) (upper : x ≤ 2 ^ 19) :
    (extOverflow ((BitVec.ofInt 20 x).extractLsb' 15 5) || decide (2 ^ 19 ≤ x)) = outOfRange 16 x := by
  by_cases overflow : 2 ^ 19 ≤ x
  · simp only [outOfRange, overflow, decide_true, Bool.or_true, Nat.reduceSub, Bool.true_eq, Bool.or_eq_true,
      decide_eq_true_eq]
    omega
  · rw [extOverflow_eq (by decide), BitVec.toInt_ofInt_eq_self (by decide) lower (by omega), decide_eq_false overflow,
      Bool.or_false]

/-- The sign SL takes when the rounding overflows AM: the rounded value is positive (47_dsp.md R573, R591). -/
theorem msb_ofInt_rounded {x : Int} (upper : x ≤ 2 ^ 19) (overflow : 2 ^ 19 ≤ x) : (BitVec.ofInt 20 x).msb = true := by
  obtain rfl : x = 2 ^ 19 := by omega
  decide

theorem satValue_eq (c : Ccr) (mac : MacUnit) : satValue c mac = saturation c.mv mac.sl mac.am := by
  rw [satValue, saturation, msb_eq_neg]
  simp only [decide_eq_true_eq]

theorem deliverE_delivers {v : Int} {w : Word} {s u : State} (value : w = BitVec.ofInt 16 v)
    (am : u.mac.am = s.mac.am) (len : Addr) : Delivers v s ((deliverE w u).advance len) := by
  refine ⟨?_, setsNZ_mk _ _ rfl rfl⟩
  have e : ((deliverE w u).advance len).e = if saturates u.ccr then satValue u.ccr u.mac else w := rfl
  rw [e, satValue_eq, am, value]
  rfl

theorem Frame.deliverE (w : Word) (s : State) : Frame [.e, .n, .z] [] s (deliverE w s) :=
  Frame.of_parts rfl rfl rfl fun l h => by
    cases l <;> first | exact absurd (by decide) h | exact rfl | exact ⟨rfl, rfl⟩

/-- The flags TMER sets before it delivers (47_dsp.md R591). -/
def State.rounded (s : State) : State :=
  { updateMv (decide (2 ^ 19 ≤ roundedHigh s.mac.am)) (BitVec.ofInt 20 (roundedHigh s.mac.am)).msb s with
    ccr := { s.ccr with
      mv := s.ccr.mv || decide (2 ^ 19 ≤ roundedHigh s.mac.am)
      ev := s.ccr.ev || extOverflow ((BitVec.ofInt 20 (roundedHigh s.mac.am)).extractLsb' 15 5) ||
        decide (2 ^ 19 ≤ roundedHigh s.mac.am) } }

theorem exec_tmer (s : State) : exec .tmer s =
    .next ((deliverE ((BitVec.ofInt 20 (roundedHigh s.mac.am)).extractLsb' 0 16) s.rounded).advance 2) := rfl

theorem Frame.rounded (s : State) : Frame [.mv, .ev, .sl] [] s s.rounded :=
  Frame.of_parts rfl rfl rfl fun l h => by
    cases l <;> first | exact absurd (by decide) h | exact rfl | exact ⟨rfl, rfl⟩

theorem State.rounded_ev (s : State) : s.rounded.ccr.ev = (s.ccr.ev || outOfRange 16 (roundedHigh s.mac.am)) := by
  obtain ⟨lower, upper⟩ := roundedHigh_bounds s.mac.am
  rw [← extOverflow_rounded lower upper, ← Bool.or_assoc]
  rfl

theorem State.rounded_sl (s : State) :
    s.rounded.mac.sl = (s.mac.sl || (decide (2 ^ 19 ≤ roundedHigh s.mac.am) && !s.ccr.mv)) := by
  have sl : s.rounded.mac.sl = if decide (2 ^ 19 ≤ roundedHigh s.mac.am) && !s.ccr.mv then
      (BitVec.ofInt 20 (roundedHigh s.mac.am)).msb else s.mac.sl := rfl
  rw [sl]
  split
  next latched =>
    obtain ⟨overflow, -⟩ := Bool.and_eq_true_iff.mp latched
    rw [msb_ofInt_rounded (roundedHigh_bounds s.mac.am).2 (of_decide_eq_true overflow), latched, Bool.or_true]
  next kept => rw [Bool.eq_false_iff.mpr kept, Bool.or_false]

theorem exec_tmer_spec (s : State) :
    ∃ t, exec .tmer s = .next t ∧ GoesOn .tmer s t ∧
      (t.ccr.mv = (s.ccr.mv || decide (2 ^ 19 ≤ roundedHigh s.mac.am)) ∧
        t.mac.sl = (s.mac.sl || (decide (2 ^ 19 ≤ roundedHigh s.mac.am) && !s.ccr.mv)) ∧
        t.ccr.ev = (s.ccr.ev || outOfRange 16 (roundedHigh s.mac.am)) ∧ Delivers (roundedHigh s.mac.am) s t) ∧
      Frame [.e, .mv, .ev, .n, .z, .sl] [] s t := by
  refine ⟨_, exec_tmer s, rfl, ⟨rfl, s.rounded_sl, s.rounded_ev, ?_⟩, ?_⟩
  · exact deliverE_delivers (extractLsb'_zero_ofInt _) rfl 2
  · exact (((Frame.rounded s).trans rfl (Frame.deliverE _ _)).then_advance rfl 2).mono (by decide) fun _ h => h

theorem exec_tmet_spec (s : State) :
    ∃ t, exec .tmet s = .next t ∧ GoesOn .tmet s t ∧ Delivers (s.mac.am.toInt / 65536) s t ∧
      Frame [.e, .n, .z] [] s t :=
  ⟨_, rfl, rfl, deliverE_delivers (extractLsb'_am_eq s.mac.am) rfl 2, (Frame.deliverE _ s).then_advance rfl 2⟩

/-- Settles O59: the rounded value on integers is the one the model keeps on 20 bits. -/
theorem roundAndSaturate : Obligations.RoundAndSaturate := by
  intro s
  have tmer := exec_tmer_spec s
  rw [roundedHigh_eq] at tmer
  exact ⟨tmer, exec_tmet_spec s⟩

end Sys2Proof.Machine
end

section
/-!
PROOFS. MAC and RMAC (47_dsp.md sections 1 and 3).
-/

namespace Sys2Proof.Machine

/-! ### The index registers under their masks -/

theorem regularMask_iff (msk : Byte) : regularMask msk = true ↔ RegularMask msk := by
  revert msk
  unfold RegularMask
  decide

/-- The sum of an index register and a signed offset, on 16 bits. -/
theorem toNat_add_nibble (i : Word) (o : Nibble) :
    ((i + o.signExtend 16).toNat : Int) = ((i.toNat : Int) + o.toInt) % 65536 := by
  have extended : (o.signExtend 16).toInt = o.toInt := BitVec.toInt_signExtend_of_le (by decide)
  have value := toInt_cases (by decide) (o.signExtend 16)
  rw [extended] at value
  rw [BitVec.toNat_add, value]
  split <;> omega

/-- The bits of a mask `2 ^ k - 1` are the remainder modulo `2 ^ k`. -/
theorem toNat_and_mask {m : Word} {k : Nat} (mask : m.toNat = 2 ^ k - 1) (v : Word) :
    (v &&& m).toNat = v.toNat % 2 ^ k := by
  rw [BitVec.toNat_and, mask, Nat.and_two_pow_sub_one_eq_mod]

/-- Bits taken from two words under a mask and its complement add up. -/
theorem toNat_merge (i v m : Word) :
    ((i &&& ~~~m) ||| (v &&& m)).toNat = (i &&& ~~~m).toNat + (v &&& m).toNat := by
  have apart : (i &&& ~~~m) &&& (v &&& m) = 0#16 := by
    ext k hk
    simp only [BitVec.getElem_and, BitVec.getElem_not, BitVec.getElem_zero]
    cases m[k] <;> simp
  rw [← BitVec.add_eq_or_of_and_eq_zero _ _ apart]
  exact BitVec.toNat_add_of_and_eq_zero apart

theorem toNat_clear_mask {m : Word} {k : Nat} (mask : m.toNat = 2 ^ k - 1) (i : Word) :
    (i &&& ~~~m).toNat + i.toNat % 2 ^ k = i.toNat := by
  have whole : (i &&& ~~~m) ||| (i &&& m) = i := by
    ext j hj
    simp only [BitVec.getElem_or, BitVec.getElem_and, BitVec.getElem_not]
    cases m[j] <;> simp
  rw [← toNat_and_mask mask, ← toNat_merge, whole]

/-- The index register takes the masked sum modulo the buffer (47_dsp.md R584). -/
theorem macSum_toNat (i : Word) {msk : Byte} (o : Nibble) (regular : RegularMask msk) :
    ((macSum i msk o).toNat : Int) = moduloIndex i msk o := by
  have sum := toNat_add_nibble i o
  unfold macSum moduloIndex
  split
  · exact sum
  · obtain ⟨k, bound, mask⟩ := regular
    have wide : (msk.setWidth 16).toNat = 2 ^ k - 1 := by
      rw [BitVec.toNat_setWidth, ← mask]
      have := msk.isLt
      omega
    have cleared := toNat_clear_mask wide i
    dsimp only
    rw [toNat_merge, toNat_and_mask wide, Nat.cast_add, Int.natCast_mod, sum, mask]
    generalize (i &&& ~~~BitVec.setWidth 16 msk).toNat = c at *
    interval_cases k <;>
      simp only [Nat.reducePow, Nat.reduceSub, Nat.cast_ofNat, Nat.cast_zero, Nat.cast_one] at * <;> omega

/-- What an index register can become in MAC and RMAC (47_dsp.md R584). -/
def MacIndexed (i : Word) (msk : Byte) (o : Nibble) (v : Word) : Prop :=
  (RegularMask msk → (v.toNat : Int) = moduloIndex i msk o) ∧ (¬RegularMask msk → hi v = hi i)

theorem macUpdate_cases (r : Idx) (msk : Byte) (o : Nibble) (s : State) :
    ∃ v n, macUpdate r msk o s = State.setIndex r v { s with draws := n } ∧ MacIndexed (s.index r) msk o v := by
  unfold macUpdate
  split
  next regular =>
    have regular := (regularMask_iff msk).mp regular
    exact ⟨_, s.draws, rfl, fun _ => macSum_toNat _ o regular, fun h => absurd regular h⟩
  next irregular =>
    exact ⟨_, s.draws + 1, rfl, fun h => absurd ((regularMask_iff msk).mpr h) irregular, fun _ => hi_append _ _⟩

/-- Both index registers written. -/
def State.macMoved (x y : Word) (n : Nat) (s : State) : State := { s with ix := x, iy := y, draws := n }

theorem macStep_cases (xoyo : Byte) (s : State) :
    ∃ x y n, macStep xoyo s = (amAdd (macProduct s) s).macMoved x y n ∧
      MacIndexed s.ix s.mac.xmsk (macXo xoyo) x ∧ MacIndexed s.iy s.mac.ymsk (macYo xoyo) y := by
  obtain ⟨x, n, first, hx⟩ := macUpdate_cases .x s.mac.xmsk (macXo xoyo) (amAdd (macProduct s) s)
  obtain ⟨y, m, second, hy⟩ := macUpdate_cases .y s.mac.ymsk (macYo xoyo)
    (State.setIndex .x x { amAdd (macProduct s) s with draws := n })
  refine ⟨x, y, m, ?_, hx, hy⟩
  rw [macStep, first, second]
  rfl

/-! ### The product and the reads -/

/-- The bounds of the product, so that AM gains less than one turn (47_dsp.md R580). -/
theorem macProduct_bounds (s : State) : -2 ^ 35 ≤ macProduct s ∧ macProduct s ≤ 2 ^ 35 := by
  obtain ⟨lower, upper⟩ := toInt_mul_toInt_bounds s.mac.hr s.mac.ir
  unfold macProduct
  constructor <;> omega

/-- HR and IR reloaded from XK : IX and YK : IY. -/
def State.reloaded (s : State) : State :=
  { s with mac := { s.mac with hr := s.peekWord .data (s.pointer .x), ir := s.peekWord .data (s.pointer .y) } }

theorem State.Quiet.macReload {s : State} (quiet : s.Quiet) : macReload s = s.reloaded := by
  rw [Machine.macReload, quiet.readWord]
  dsimp only
  rw [quiet.readWord]
  rfl

theorem macStep_platform (xoyo : Byte) (s : State) : (macStep xoyo s).platform = s.platform := by
  obtain ⟨x, y, n, step, -, -⟩ := macStep_cases xoyo s
  rw [step]
  rfl

/-- What MAC has written before it reloads HR and IR (47_dsp.md R580). -/
def State.macWritten (xoyo : Byte) (s : State) : State :=
  { (macStep xoyo s).setEd (BitVec.ofInt 32 (macProduct s)) with
    iz := s.mac.hr
    ccr := { (macStep xoyo s).ccr with v := (s.mac.hr == 0x8000#16) && (s.mac.ir == 0x8000#16) } }

theorem State.Quiet.exec_mac {s : State} (quiet : s.Quiet) (xoyo : Byte) :
    exec (.mac xoyo) s = .next ((s.macWritten xoyo).reloaded.advance 2) := by
  have hx : exec (.mac xoyo) s = .next ((Machine.macReload (s.macWritten xoyo)).advance 2) := rfl
  rw [hx, State.Quiet.macReload (s := s.macWritten xoyo) (quiet.of_platform (macStep_platform xoyo s))]

/-- The effect of MAC on a quiet platform (47_dsp.md R580). -/
theorem State.Quiet.mac_spec {s : State} (quiet : s.Quiet) (xoyo : Byte) :
    ∃ t, exec (.mac xoyo) s = .next t ∧ GoesOn (.mac xoyo) s t ∧ Accumulates (macProduct s) s t ∧
      t.ed = BitVec.ofInt 32 (macProduct s) ∧
      t.ccr.v = ((s.mac.hr == 0x8000#16) && (s.mac.ir == 0x8000#16)) ∧ t.iz = s.mac.hr ∧
      MacIndexed s.ix s.mac.xmsk (macXo xoyo) t.ix ∧ MacIndexed s.iy s.mac.ymsk (macYo xoyo) t.iy ∧
      t.mac.hr = s.peekWord .data (t.pointer .x) ∧ t.mac.ir = s.peekWord .data (t.pointer .y) ∧
      Frame [.a, .b, .e, .ix, .iy, .iz, .mv, .ev, .v, .hr, .ir, .am, .sl] [] s t := by
  obtain ⟨x, y, n, step, hx, hy⟩ := macStep_cases xoyo s
  obtain ⟨lower, upper⟩ := macProduct_bounds s
  have next := quiet.exec_mac xoyo
  rw [State.macWritten, step] at next
  refine ⟨_, next, rfl, (amAdd_accumulates lower upper).congr rfl rfl rfl rfl,
    State.ed_setEd (BitVec.ofInt 32 (macProduct s)) s, rfl, rfl, hx, hy, rfl, rfl, ?_⟩
  exact Frame.of_parts rfl rfl rfl fun l h => by
    cases l <;> first | exact absurd (by decide) h | exact rfl | exact ⟨rfl, rfl⟩

/-- Settles O54: MAC is an addition of the product, two index updates and two reads. -/
theorem multiplyAccumulate : Obligations.MultiplyAccumulate := by
  intro xoyo s quiet
  obtain ⟨t, next, goesOn, accumulates, ed, v, iz, ⟨xRegular, xIrregular⟩, ⟨yRegular, yIrregular⟩, hr, ir, frame⟩ :=
    quiet.mac_spec xoyo
  refine ⟨t, next, goesOn, accumulates, ed, ?_, iz, xRegular, xIrregular, yRegular, yIrregular, hr, ir, frame⟩
  rw [v, Bool.eq_iff_iff, Bool.and_eq_true, beq_iff_eq, beq_iff_eq, decide_eq_true_eq]

/-! ### The iterations of RMAC -/

/-- How many iterations RMAC makes from a count (47_dsp.md R581). -/
def rmacTotal (e : Word) : Nat := if e = 0x8000#16 then 32769 else if e.toInt < 0 then 1 else e.toNat + 1

/-- How many of them it makes before the pins suspend it (47_dsp.md R594). -/
def rmacDone (suspend : Option Nat) (e : Word) : Nat :=
  match suspend with
  | none => rmacTotal e
  | some k => min (k + 1) (rmacTotal e)

theorem rmacTotal_pos (e : Word) : 0 < rmacTotal e := by
  unfold rmacTotal
  split
  · decide
  · split <;> omega

theorem rmacTotal_eq (e : Word) :
    rmacTotal e = if e.toNat = 32768 then 32769 else if 32768 < e.toNat then 1 else e.toNat + 1 := by
  have least : e = 0x8000#16 ↔ e.toNat = 32768 := BitVec.toNat_inj.symm
  simp only [rmacTotal, toInt_cases (by decide : 0 < 16), least]
  split
  · rfl
  · have := e.isLt
    simp only [Nat.reduceSub, Nat.reducePow]
    split <;> split <;> split <;> omega

theorem rmacTotal_le (e : Word) : rmacTotal e ≤ 32769 := by
  rw [rmacTotal_eq]
  split
  · decide
  · split <;> omega

/-- The sign of the count after its decrement. -/
theorem msb_pred (e : Word) : (e - 1#16).msb = decide (32768 < e.toNat ∨ e.toNat = 0) := by
  rw [msb_eq_le, decide_eq_decide, BitVec.toNat_sub, BitVec.toNat_ofNat]
  have := e.isLt
  omega

/-- The count is negative after its decrement: that iteration is the only one left. -/
theorem rmacTotal_of_last {e : Word} (last : (e - 1#16).msb = true) : rmacTotal e = 1 := by
  rw [msb_pred, decide_eq_true_eq] at last
  rw [rmacTotal_eq, if_neg (by omega)]
  split <;> omega

theorem rmacTotal_of_more {e : Word} (more : ¬(e - 1#16).msb = true) : rmacTotal e = rmacTotal (e - 1#16) + 1 := by
  rw [msb_pred, decide_eq_true_eq] at more
  have pred : (e - 1#16).toNat = e.toNat - 1 := by
    rw [BitVec.toNat_sub, BitVec.toNat_ofNat]
    omega
  rw [rmacTotal_eq, rmacTotal_eq, pred, if_neg (by omega : ¬e.toNat - 1 = 32768), if_neg (by omega : ¬32768 < e.toNat - 1),
    if_neg (by omega : ¬32768 < e.toNat)]
  split <;> omega

theorem rmacDone_of_last {e : Word} (suspend : Option Nat) (last : (e - 1#16).msb = true) : rmacDone suspend e = 1 := by
  cases suspend <;> simp [rmacDone, rmacTotal_of_last last]

/-! ### What the iterations leave unchanged -/

/-- The effect of `n` iterations on what does not depend on memory. -/
structure Iterated (n : Nat) (s u : State) : Prop where
  pc : u.pc = s.pc
  e : u.e = s.e - BitVec.ofNat 16 n
  platform : u.platform = s.platform
  frame : Frame [.a, .b, .e, .ix, .iy, .mv, .ev, .hr, .ir, .am, .sl] [] s u

theorem State.Quiet.rmacIterate {s : State} (quiet : s.Quiet) (xoyo : Byte) :
    rmacIterate xoyo s = { (macStep xoyo s).reloaded with e := (macStep xoyo s).e - 1#16 } := by
  rw [Machine.rmacIterate, State.Quiet.macReload (quiet.of_platform (macStep_platform xoyo s))]
  rfl

theorem State.Quiet.iterated_one {s : State} (quiet : s.Quiet) (xoyo : Byte) : Iterated 1 s (Machine.rmacIterate xoyo s) := by
  obtain ⟨x, y, n, step, -, -⟩ := macStep_cases xoyo s
  rw [quiet.rmacIterate, step]
  exact ⟨rfl, rfl, rfl, Frame.of_parts rfl rfl rfl fun l h => by
    cases l <;> first | exact absurd (by decide) h | exact rfl | exact ⟨rfl, rfl⟩⟩

theorem Iterated.succ {n : Nat} {s t u : State} (h : Iterated n s t) (k : Iterated 1 t u) : Iterated (n + 1) s u := by
  refine ⟨k.pc.trans h.pc, ?_, k.platform.trans h.platform, (h.frame.trans h.platform k.frame).mono (by decide) fun _ m => m⟩
  rw [k.e, h.e, BitVec.ofNat_add, BitVec.sub_sub]

theorem State.Quiet.iterated {s : State} (quiet : s.Quiet) (xoyo : Byte) (n : Nat) :
    Iterated n s ((Machine.rmacIterate xoyo)^[n] s) := by
  induction n with
  | zero => exact ⟨rfl, (BitVec.sub_zero _).symm, rfl, (Frame.refl s).mono (by simp) fun _ h => h⟩
  | succ n ih =>
    rw [Function.iterate_succ_apply']
    exact ih.succ ((quiet.of_platform ih.platform).iterated_one xoyo)

/-- One iteration does to AM, its flags and the registers of the operands what MAC does (47_dsp.md R581). -/
theorem State.Quiet.mac_agrees {s : State} (quiet : s.Quiet) (xoyo : Byte) :
    ∃ v, exec (.mac xoyo) s = .next v ∧ (Machine.rmacIterate xoyo s).mac = v.mac ∧
      (Machine.rmacIterate xoyo s).ix = v.ix ∧ (Machine.rmacIterate xoyo s).iy = v.iy ∧
      (Machine.rmacIterate xoyo s).ccr.ev = v.ccr.ev ∧ (Machine.rmacIterate xoyo s).ccr.mv = v.ccr.mv := by
  rw [quiet.rmacIterate]
  exact ⟨_, quiet.exec_mac xoyo, rfl, rfl, rfl, rfl, rfl⟩

/-! ### The loop of RMAC -/

/-- RMAC as its iterations, and then its end or its suspension (47_dsp.md R581, R594). -/
def rmacEnd (done total : Nat) (t : State) : State := if done = total then rmacFinish t else rmacSuspend t

theorem rmacLoop_none (fuel : Nat) (xoyo : Byte) (s : State) :
    rmacLoop (fuel + 1) none xoyo s =
      if (rmacIterate xoyo s).e.msb then rmacFinish (rmacIterate xoyo s)
      else rmacLoop fuel none xoyo (rmacIterate xoyo s) := rfl

theorem rmacLoop_suspend (fuel : Nat) (xoyo : Byte) (s : State) :
    rmacLoop (fuel + 1) (some 0) xoyo s =
      if (rmacIterate xoyo s).e.msb then rmacFinish (rmacIterate xoyo s) else rmacSuspend (rmacIterate xoyo s) := rfl

theorem rmacLoop_some (fuel k : Nat) (xoyo : Byte) (s : State) :
    rmacLoop (fuel + 1) (some (k + 1)) xoyo s =
      if (rmacIterate xoyo s).e.msb then rmacFinish (rmacIterate xoyo s)
      else rmacLoop fuel (some k) xoyo (rmacIterate xoyo s) := rfl

/-- The iteration that ends the loop, where the pins suspend it or not. -/
theorem rmacLoop_of_last {fuel : Nat} (suspend : Option Nat) {xoyo : Byte} {s : State}
    (last : (rmacIterate xoyo s).e.msb = true) :
    rmacLoop (fuel + 1) suspend xoyo s = rmacFinish (rmacIterate xoyo s) := by
  rcases suspend with _ | _ | k
  · rw [rmacLoop_none, if_pos last]
  · rw [rmacLoop_suspend, if_pos last]
  · rw [rmacLoop_some, if_pos last]

theorem State.Quiet.rmacLoop {s : State} (quiet : s.Quiet) (xoyo : Byte) (fuel : Nat) (suspend : Option Nat)
    (enough : rmacTotal s.e ≤ fuel) :
    rmacLoop fuel suspend xoyo s =
      rmacEnd (rmacDone suspend s.e) (rmacTotal s.e) ((Machine.rmacIterate xoyo)^[rmacDone suspend s.e] s) := by
  induction fuel generalizing suspend s with
  | zero => exact absurd (rmacTotal_pos s.e) (by omega)
  | succ fuel ih =>
    have one := quiet.iterated_one xoyo
    have e : (Machine.rmacIterate xoyo s).e = s.e - 1#16 := one.e
    by_cases last : (s.e - 1#16).msb = true
    · rw [rmacLoop_of_last suspend (e ▸ last), rmacDone_of_last suspend last, rmacTotal_of_last last]
      rfl
    · have more : ¬(Machine.rmacIterate xoyo s).e.msb = true := e ▸ last
      have total := rmacTotal_of_more last
      have left := rmacTotal_pos (s.e - 1#16)
      have rest := fun suspend => ih (quiet.of_platform one.platform) suspend (by rw [e]; omega)
      rw [e] at rest
      rcases suspend with _ | _ | k
      · rw [rmacLoop_none, if_neg more, rest]
        simp only [rmacDone, rmacEnd, total, if_true, Function.iterate_succ_apply]
      · have done : rmacDone (some 0) s.e = 1 := by
          rw [rmacDone, total]
          omega
        rw [rmacLoop_suspend, if_neg more, done, rmacEnd, if_neg (by omega)]
        rfl
      · have done : rmacDone (some (k + 1)) s.e = rmacDone (some k) (s.e - 1#16) + 1 := by
          rw [rmacDone, rmacDone, total]
          omega
        rw [rmacLoop_some, if_neg more, rest, done, total, Function.iterate_succ_apply, rmacEnd, rmacEnd]
        simp only [Nat.add_right_cancel_iff]

/-! ### The end of RMAC -/

theorem Frame.rmacEnd (done total : Nat) (t : State) : Frame [.a, .b, .e] [] t (rmacEnd done total t) := by
  unfold Machine.rmacEnd
  split <;> exact Frame.of_parts rfl rfl rfl fun l h => by
    cases l <;> first | exact absurd (by decide) h | exact rfl | exact ⟨rfl, rfl⟩

theorem rmacEnd_pc {xoyo : Byte} {done total : Nat} {s t : State} (h : Iterated done s t) :
    if done = total then GoesOn (.rmac xoyo) s (rmacEnd done total t)
    else (rmacEnd done total t).pc = s.pc ∧ (rmacEnd done total t).e = s.e - BitVec.ofNat 16 done := by
  unfold rmacEnd
  split
  · exact congrArg (· + 2) h.pc
  · exact ⟨h.pc, h.e⟩

theorem rmacEnd_kept (done total : Nat) (t : State) :
    (rmacEnd done total t).mac = t.mac ∧ (rmacEnd done total t).ix = t.ix ∧ (rmacEnd done total t).iy = t.iy ∧
      (rmacEnd done total t).ccr = t.ccr := by
  unfold rmacEnd
  split <;> exact ⟨rfl, rfl, rfl, rfl⟩

theorem State.Quiet.exec_rmac {s : State} (quiet : s.Quiet) (xoyo : Byte) :
    exec (.rmac xoyo) s = .next (rmacEnd (rmacDone s.pins.suspend s.e) (rmacTotal s.e)
      ((Machine.rmacIterate xoyo)^[rmacDone s.pins.suspend s.e] s)) := by
  have hx : exec (.rmac xoyo) s = execRmac xoyo s := rfl
  rw [hx, execRmac, quiet.rmacLoop xoyo _ _ (rmacTotal_le s.e)]

/-- Settles O55: the loop is its iterations, and each does what MAC does. -/
theorem repeatMultiplyAccumulate : Obligations.RepeatMultiplyAccumulate := by
  intro xoyo s quiet
  have iterated := quiet.iterated xoyo
  have last := iterated (rmacDone s.pins.suspend s.e)
  refine ⟨_, quiet.exec_rmac xoyo, rmacEnd_pc last, ?_, fun _ _ => ⟨fun k => (rmacIterate xoyo)^[k] s, rfl, ?_, ?_⟩⟩
  · exact (last.frame.trans last.platform (Frame.rmacEnd _ _ _)).mono (by decide) fun _ h => h
  · intro k _
    obtain ⟨v, next, mac, ix, iy, ev, mv⟩ := (quiet.of_platform (iterated k).platform).mac_agrees xoyo
    refine ⟨v, next, ?_⟩
    have frame := (iterated (k + 1)).frame
    simp only [Function.iterate_succ_apply'] at frame ⊢
    exact ⟨mac, ix, iy, ev, mv, frame⟩
  · exact rmacEnd_kept _ _ _

end Sys2Proof.Machine
end

section
/-!
PROOFS. Instructions whose operand access ends in BERR (20_memory.md section 5, 60_exceptions.md section 4).
-/

namespace Sys2Proof.Machine

/-! ### Accesses that may end in BERR -/

/-- No breakpoint, no other bus master, and the double-bus-fault window closed: a bus error is latched and that is all. -/
structure State.Lone (s : State) : Prop where
  no_bkpt : s.platform.bkpts = []
  no_masters : s.platform.externalMasters = false
  closed : s.hid.faultWindow = false

/-- An instruction of `s` has come to `u` by accesses to the bytes `bytes`; one of them ended in BERR where `error`. -/
structure Noted (error : Bool) (bytes : List Addr) (s u : State) : Prop where
  working : Working [.berrLatch, .berrWait] bytes s u
  kept : error = false → u.hid = s.hid
  latched : error = true → BerrLatched s u

theorem Noted.lone {error : Bool} {bytes : List Addr} {s u : State} (h : Noted error bytes s u) (lone : s.Lone) :
    u.Lone :=
  ⟨by rw [h.working.platform, lone.no_bkpt], by rw [h.working.platform, lone.no_masters],
    (h.working.frame.parts .faultWindow (by decide)).trans lone.closed⟩

/-- The latch stays set, and its countdown goes on from the first of two bus errors (60_exceptions.md R651). -/
theorem BerrLatched.trans {s t u : State} (h : BerrLatched s t) (k : BerrLatched t u) : BerrLatched s u := by
  obtain ⟨hLatch, hWait⟩ := h
  obtain ⟨kLatch, kWait⟩ := k
  rw [hLatch, if_pos rfl] at kWait
  exact ⟨kLatch, kWait.trans hWait⟩

theorem BerrLatched.congr_left {s t u : State} (h : BerrLatched t u) (hid : t.hid = s.hid)
    (platform : t.platform = s.platform) : BerrLatched s u := by
  rwa [BerrLatched, hid, platform] at h

theorem BerrLatched.congr_right {s t u : State} (h : BerrLatched s t) (hid : u.hid = t.hid) : BerrLatched s u := by
  rwa [BerrLatched, ← hid] at h

theorem Noted.trans {first second : Bool} {bytes bytes' : List Addr} {s t u : State} (h : Noted first bytes s t)
    (k : Noted second bytes' t u) : Noted (first || second) (bytes ++ bytes') s u := by
  refine ⟨⟨k.working.pc.trans h.working.pc, k.working.ccr.trans h.working.ccr,
    k.working.platform.trans h.working.platform, ?_⟩, ?_, ?_⟩
  · exact (h.working.frame.trans h.working.platform k.working.frame).mono (by decide) fun _ m => m
  · intro none
    obtain ⟨noFirst, noSecond⟩ := Bool.or_eq_false_iff.mp none
    exact (k.kept noSecond).trans (h.kept noFirst)
  · intro some
    cases first with
    | false => exact (k.latched some).congr_left (h.kept rfl) h.working.platform
    | true =>
      cases second with
      | false => exact (h.latched rfl).congr_right (k.kept rfl)
      | true => exact (h.latched rfl).trans (k.latched rfl)

/-- BERR outside the double-bus-fault window (60_exceptions.md R650, R651). -/
theorem State.noteBerr_closed {s : State} (closed : s.hid.faultWindow = false) :
    BerrLatched s s.noteBerr ∧ Working [.berrLatch, .berrWait] [] s s.noteBerr := by
  rw [State.noteBerr, closed, if_neg Bool.false_ne_true]
  cases latch : s.hid.berrLatch with
  | true =>
    refine ⟨⟨latch, ?_⟩, rfl, rfl, rfl, (Frame.refl s).mono (by simp) fun _ h => h⟩
    rw [latch]
    rfl
  | false =>
    refine ⟨⟨rfl, ?_⟩, rfl, rfl, rfl, ?_⟩
    · rw [latch]
      rfl
    · exact Frame.of_parts rfl rfl rfl fun l h => by
        cases l <;> first | exact absurd (by decide) h | exact rfl | exact ⟨rfl, rfl⟩

theorem State.Lone.bkptHit {s : State} (lone : s.Lone) (sp : Space) (write : Bool) (cycles : List Addr) :
    s.bkptHit sp write cycles = false := by
  rw [State.bkptHit, lone.no_bkpt]
  simp [hitsAny]

theorem Noted.of_working {bytes : List Addr} {s u : State} (work : Working [] bytes s u) (hid : u.hid = s.hid) :
    Noted false bytes s u :=
  ⟨⟨work.pc, work.ccr, work.platform, work.frame.mono (by simp) fun _ h => h⟩, fun _ => hid,
    fun h => absurd h Bool.false_ne_true⟩

/-- What the platform's signals do after the bus cycles of an access. -/
theorem State.Lone.noteAccess {s : State} (lone : s.Lone) (sp : Space) (write : Bool) (cycles : List Addr) :
    Noted (s.busError sp write cycles) [] s (s.noteAccess sp write cycles) := by
  obtain ⟨latched, noted⟩ := State.noteBerr_closed lone.closed
  have noBkpt : s.noteBerr.bkptHit sp write cycles = false := by
    rw [State.bkptHit, noted.platform]
    exact lone.bkptHit sp write cycles
  rw [State.noteAccess]
  cases s.busError sp write cycles with
  | false =>
    simp only [Bool.false_eq_true, if_false, lone.bkptHit, Bool.and_false]
    exact Noted.of_working (Working.refl s) rfl
  | true =>
    simp only [if_true, noBkpt, Bool.and_false, Bool.false_eq_true, if_false]
    exact ⟨noted, fun h => absurd h.symm Bool.false_ne_true, fun _ => latched⟩

/-- An access whose bus cycles leave `u`, as noted by the platform's signals. -/
theorem State.Lone.access {bytes : List Addr} {s u : State} (lone : s.Lone) (work : Working [] bytes s u)
    (hid : u.hid = s.hid) (sp : Space) (write : Bool) (cycles : List Addr) :
    Noted (s.busError sp write cycles) bytes s (u.noteAccess sp write cycles) := by
  have first := Noted.of_working work hid
  have same : u.busError sp write cycles = s.busError sp write cycles := by
    rw [State.busError, State.busError, work.platform]
  simpa [same] using first.trans ((first.lone lone).noteAccess sp write cycles)

theorem State.Lone.masters {s : State} (lone : s.Lone) : s.masters = s := State.masters_of_none lone.no_masters

theorem Working.bump (s : State) : Working [] [] s s.bump :=
  ⟨rfl, rfl, rfl, Frame.of_parts rfl rfl rfl fun l _ => by cases l <;> first | exact rfl | exact ⟨rfl, rfl⟩⟩

theorem State.Lone.readByte {s : State} (lone : s.Lone) (a : Addr) :
    ∃ v u, s.readByte a = (v, u) ∧ Noted (s.busError .data false [a]) [] s u := by
  refine ⟨_, _, rfl, ?_⟩
  rw [State.busReadByte, lone.masters]
  split
  · exact lone.access (Working.bump s) rfl _ _ _
  · exact lone.access (Working.refl s) rfl _ _ _

theorem State.Lone.readWord {s : State} (lone : s.Lone) (a : Addr) :
    ∃ v u, s.readWord a = (v, u) ∧ Noted (s.busError .data false (wordCycles a)) [] s u := by
  refine ⟨_, _, rfl, ?_⟩
  rw [State.busReadWord, lone.masters, lone.masters]
  split
  · exact lone.access (Working.bump s) rfl _ _ _
  · exact lone.access (Working.refl s) rfl _ _ _

/-! ### Stores that may end in BERR -/

/-- A byte is as stored or as before. -/
def StoredOrKept (a : Addr) (v : Byte) (s t : State) : Prop :=
  t.peek .data a = v ∨ t.peek .data a = s.peek .data a

/-- The store of a byte whose bus cycle ended in BERR (20_memory.md R111). -/
theorem State.pokeMaybe_stored {s : State} (wf : Memory.wf s.mem = true) (a : Addr) (v : Byte) :
    StoredOrKept a v s (s.pokeMaybe .data a v) := by
  rw [StoredOrKept, State.pokeMaybe, State.peek_poke_self (s := s.bump) wf]
  cases Config.anyBit s.draws with
  | false => exact Or.inr rfl
  | true => exact Or.inl rfl

theorem Working.trans {bytes bytes' : List Addr} {s t u : State} (h : Working [] bytes s t)
    (k : Working [] bytes' t u) : Working [] (bytes ++ bytes') s u :=
  ⟨k.pc.trans h.pc, k.ccr.trans h.ccr, k.platform.trans h.platform, h.frame.trans h.platform k.frame⟩

theorem Working.poke (a : Addr) (v : Byte) (s : State) : Working [] [a] s (s.poke .data a v) :=
  ⟨rfl, rfl, rfl, Frame.poke a v s⟩

theorem Working.pokeMaybe (a : Addr) (v : Byte) (s : State) : Working [] [a] s (s.pokeMaybe .data a v) :=
  (Working.bump s).trans (Working.poke a _ s.bump)

theorem Noted.peek {error : Bool} {s u : State} (h : Noted error [] s u) (x : Addr) :
    u.peek .data x = s.peek .data x := h.working.frame.data x (by simp)

/-- A store whose bus cycles leave `u`, as noted by the platform's signals. -/
theorem State.Lone.stored {bytes : List Addr} {s u : State} (lone : s.Lone) (work : Working [] bytes s u)
    (hid : u.hid = s.hid) (cycles : List Addr) :
    Noted (s.busError .data true cycles) bytes s (u.noteAccess .data true cycles) ∧
      ∀ a v, StoredOrKept a v s u → StoredOrKept a v s (u.noteAccess .data true cycles) := by
  have noted := ((Noted.of_working work hid).lone lone).noteAccess .data true cycles
  refine ⟨lone.access work hid .data true cycles, fun a v stored => ?_⟩
  rwa [StoredOrKept, noted.peek]

/-- A byte written, the bus cycle noted (20_memory.md R111). -/
theorem State.Lone.writeByte {s : State} (lone : s.Lone) (wf : Memory.wf s.mem = true) (a : Addr) (v : Byte) :
    Noted (s.busError .data true [a]) [a] s (s.writeByte a v) ∧ StoredOrKept a v s (s.writeByte a v) := by
  rw [State.writeByte, State.busWriteByte, lone.masters]
  split
  · obtain ⟨noted, stored⟩ := lone.stored (Working.pokeMaybe a v s) rfl [a]
    exact ⟨noted, stored a v (State.pokeMaybe_stored wf a v)⟩
  · obtain ⟨noted, stored⟩ := lone.stored (Working.poke a v s) rfl [a]
    exact ⟨noted, stored a v (Or.inl (State.peek_poke_self wf a v))⟩

/-- Both bytes of a word, each as stored or as before. -/
theorem StoredOrKept.word {s t u : State} {a : Addr} {v w : Byte} (first : StoredOrKept a v s t)
    (second : StoredOrKept (a + 1) w t u) (low : t.peek .data (a + 1) = s.peek .data (a + 1))
    (high : u.peek .data a = t.peek .data a) : StoredOrKept a v s u ∧ StoredOrKept (a + 1) w s u := by
  rw [StoredOrKept, low] at second
  refine ⟨?_, second⟩
  rwa [StoredOrKept, high]

theorem Working.peek_of_ne {a x : Addr} {s u : State} (h : Working [] [a] s u) (ne : x ≠ a) :
    u.peek .data x = s.peek .data x := h.frame.data x (by simpa using ne)

/-- A word written, its bus cycles noted (20_memory.md R106, R111). -/
theorem State.Lone.writeWord {s : State} (lone : s.Lone) (wf : Memory.wf s.mem = true) (a : Addr) (v : Word) :
    Noted (s.busError .data true (wordCycles a)) (wordAt a) s (s.writeWord a v) ∧
      StoredOrKept a (hi v) s (s.writeWord a v) ∧ StoredOrKept (a + 1) (lo v) s (s.writeWord a v) := by
  rw [State.writeWord, State.busWriteWord, lone.masters]
  split
  · have first := Working.pokeMaybe a (hi v) s
    have second := Working.pokeMaybe (a + 1) (lo v) (s.pokeMaybe .data a (hi v))
    have bytes := (State.pokeMaybe_stored wf a (hi v)).word
      (State.pokeMaybe_stored (s := s.pokeMaybe .data a (hi v)) (State.wf_poke (s := s.bump) wf a _) (a + 1) (lo v))
      (first.peek_of_ne (succ_ne a)) (second.peek_of_ne (succ_ne a).symm)
    rw [((Noted.of_working first rfl).lone lone).masters]
    obtain ⟨noted, stored⟩ := lone.stored (first.trans second) rfl (wordCycles a)
    exact ⟨noted, stored _ _ bytes.1, stored _ _ bytes.2⟩
  · have first := Working.poke a (hi v) s
    have second := Working.poke (a + 1) (lo v) (s.poke .data a (hi v))
    have bytes := StoredOrKept.word (u := (s.poke .data a (hi v)).poke .data (a + 1) (lo v))
      (Or.inl (State.peek_poke_self wf a (hi v)))
      (Or.inl (State.peek_poke_self (State.wf_poke wf a (hi v)) (a + 1) (lo v)))
      (first.peek_of_ne (succ_ne a)) (second.peek_of_ne (succ_ne a).symm)
    rw [((Noted.of_working first rfl).lone lone).masters]
    obtain ⟨noted, stored⟩ := lone.stored (first.trans second) rfl (wordCycles a)
    exact ⟨noted, stored _ _ bytes.1, stored _ _ bytes.2⟩

/-! ### The instructions -/

/-- The end of an instruction after a bus error was latched: the flags are written, and execution goes on. -/
theorem BerrLatched.finish {bytes : List Addr} {ws fs : List Loc} {i : Instr} {c : Ccr} {s u : State} {len : Addr}
    (latched : BerrLatched s u) (work : Working ([.berrLatch, .berrWait] ++ ws) bytes s u) (hf : FlagFrame fs s.ccr c)
    (hl : len = BitVec.ofNat 20 i.length) :
    GoesOn i s ((u.setFlags c).advance len) ∧ BerrLatched s ((u.setFlags c).advance len) ∧
      Frame (ws ++ fs ++ [.berrLatch, .berrWait]) bytes s ((u.setFlags c).advance len) := by
  refine ⟨work.goesOn c hl, latched, (work.finish hf len).mono (fun l h => ?_) fun _ m => m⟩
  simp only [List.mem_append] at h ⊢
  tauto

/-- The flags an operation on two operands may write. -/
def Bin.Writes {w : Nat} (op : Bin w) (fs : List Loc) : Prop := ∀ x y c, FlagFrame fs c (op x y c).2

theorem State.Lone.bin8 {s : State} (lone : s.Lone) (op : Bin 8) (r : R8) (m : MemOp) :
    ∃ v u, bin8 op r (.mem m) s = .next (((setR8 r (op (getR8 r s) v s.ccr).1 u).setFlags
        (op (getR8 r s) v s.ccr).2).advance (memLen m)) ∧
      Noted (s.busError .data false [ea m s]) [] s u := by
  obtain ⟨v, u, read, noted⟩ := lone.readByte (ea m s)
  refine ⟨v, u, ?_, noted⟩
  simp only [Machine.bin8, readSrc8, read, src8Len]

theorem exec_bin8_berr {i : Instr} {op : Bin 8} {r : R8} {m : MemOp} {s : State} {fs : List Loc} (lone : s.Lone)
    (error : s.busError .data false [ea m s] = true) (writes : Bin.Writes op fs)
    (hx : exec i s = bin8 op r (.mem m) s) (hl : memLen m = BitVec.ofNat 20 i.length) :
    ∃ t, exec i s = .next t ∧ GoesOn i s t ∧ BerrLatched s t ∧
      Frame (r.locs ++ fs ++ [.berrLatch, .berrWait]) [] s t := by
  obtain ⟨v, u, next, noted⟩ := lone.bin8 op r m
  have latched := (noted.latched error).congr_right (setR8_hid r (op (getR8 r s) v s.ccr).1 u)
  exact ⟨_, hx.trans next, latched.finish (noted.working.setR8 r _) (writes ..) hl⟩

/-- After LDAA, N and Z are those of the value that A took, whatever the bus delivered. -/
theorem exec_ldaa_isResult (m : MemOp) {s : State} (lone : s.Lone) :
    ∃ t, exec (.ldaa (.mem m)) s = .next t ∧ IsResult t.a t.ccr := by
  obtain ⟨v, u, next, -⟩ := lone.bin8 opLoad .a m
  exact ⟨_, next, logic_isResult v s.ccr⟩

theorem exec_cmp8_berr {i : Instr} {op : Bin 8} {r : R8} {m : MemOp} {s : State} {fs : List Loc} (lone : s.Lone)
    (error : s.busError .data false [ea m s] = true) (writes : Bin.Writes op fs)
    (hx : exec i s = cmp8 op r (.mem m) s) (hl : memLen m = BitVec.ofNat 20 i.length) :
    ∃ t, exec i s = .next t ∧ GoesOn i s t ∧ BerrLatched s t ∧ Frame (fs ++ [.berrLatch, .berrWait]) [] s t := by
  obtain ⟨v, u, read, noted⟩ := lone.readByte (ea m s)
  have next : cmp8 op r (.mem m) s = .next ((u.setFlags (op (getR8 r s) v s.ccr).2).advance (memLen m)) := by
    simp only [cmp8, readSrc8, read, src8Len]
  exact ⟨_, hx.trans next, (noted.latched error).finish (ws := []) noted.working (writes ..) hl⟩

theorem exec_bin16_berr {i : Instr} {op : Bin 16} {r : R16} {m : MemOp} {s : State} {fs : List Loc} (lone : s.Lone)
    (error : s.busError .data false (wordCycles (ea m s)) = true) (writes : Bin.Writes op fs)
    (hx : exec i s = bin16 op r (.mem m) s) (hl : memLen m = BitVec.ofNat 20 i.length) :
    ∃ t, exec i s = .next t ∧ GoesOn i s t ∧ BerrLatched s t ∧
      Frame (r.locs ++ fs ++ [.berrLatch, .berrWait]) [] s t := by
  obtain ⟨v, u, read, noted⟩ := lone.readWord (ea m s)
  have next : bin16 op r (.mem m) s = .next (((setR16 r (op (getR16 r s) v s.ccr).1 u).setFlags
      (op (getR16 r s) v s.ccr).2).advance (memLen m)) := by
    simp only [bin16, readSrc16, read, src16Len]
  have latched := (noted.latched error).congr_right (setR16_hid r (op (getR16 r s) v s.ccr).1 u)
  exact ⟨_, hx.trans next, latched.finish (noted.working.setR16 r _) (writes ..) hl⟩

theorem exec_cmp16_berr {i : Instr} {op : Bin 16} {r : R16} {m : MemOp} {s : State} {fs : List Loc} (lone : s.Lone)
    (error : s.busError .data false (wordCycles (ea m s)) = true) (writes : Bin.Writes op fs)
    (hx : exec i s = cmp16 op r (.mem m) s) (hl : memLen m = BitVec.ofNat 20 i.length) :
    ∃ t, exec i s = .next t ∧ GoesOn i s t ∧ BerrLatched s t ∧ Frame (fs ++ [.berrLatch, .berrWait]) [] s t := by
  obtain ⟨v, u, read, noted⟩ := lone.readWord (ea m s)
  have next : cmp16 op r (.mem m) s = .next ((u.setFlags (op (getR16 r s) v s.ccr).2).advance (memLen m)) := by
    simp only [cmp16, readSrc16, read, src16Len]
  exact ⟨_, hx.trans next, (noted.latched error).finish (ws := []) noted.working (writes ..) hl⟩

theorem StoredOrKept.finish {a : Addr} {v : Byte} {s u : State} (h : StoredOrKept a v s u) (c : Ccr) (len : Addr) :
    StoredOrKept a v s ((u.setFlags c).advance len) := by
  rwa [StoredOrKept, State.peek_advance, State.peek_setFlags]

theorem exec_store8_berr {i : Instr} {v : Byte} {m : MemOp} {s : State} (lone : s.Lone) (inv : s.Inv)
    (error : s.busError .data true [ea m s] = true) (hx : exec i s = store8 v m s)
    (hl : memLen m = BitVec.ofNat 20 i.length) :
    ∃ t, exec i s = .next t ∧ GoesOn i s t ∧ BerrLatched s t ∧ IsResult v t.ccr ∧ StoredOrKept (ea m s) v s t ∧
      Frame [.n, .z, .v, .berrLatch, .berrWait] [ea m s] s t := by
  obtain ⟨noted, stored⟩ := lone.writeByte inv.mem_wf (ea m s) v
  obtain ⟨goesOn, latched, frame⟩ :=
    (noted.latched error).finish (ws := []) noted.working (FlagFrame.logic v s.ccr) hl
  exact ⟨_, hx, goesOn, latched, logic_isResult v s.ccr, stored.finish _ _, frame⟩

theorem exec_store16_berr {i : Instr} {v : Word} {m : MemOp} {s : State} (lone : s.Lone) (inv : s.Inv)
    (error : s.busError .data true (wordCycles (ea m s)) = true) (hx : exec i s = store16 v m s)
    (hl : memLen m = BitVec.ofNat 20 i.length) :
    ∃ t, exec i s = .next t ∧ GoesOn i s t ∧ BerrLatched s t ∧ IsResult v t.ccr ∧
      StoredOrKept (ea m s) (hi v) s t ∧ StoredOrKept (ea m s + 1) (lo v) s t ∧
      Frame [.n, .z, .v, .berrLatch, .berrWait] (wordAt (ea m s)) s t := by
  obtain ⟨noted, high, low⟩ := lone.writeWord inv.mem_wf (ea m s) v
  obtain ⟨goesOn, latched, frame⟩ :=
    (noted.latched error).finish (ws := []) noted.working (FlagFrame.logic v s.ccr) hl
  exact ⟨_, hx, goesOn, latched, logic_isResult v s.ccr, high.finish _ _, low.finish _ _, frame⟩

/-- A read and then a write of one byte, one of which ends in BERR. -/
theorem exec_rmw8_berr {i : Instr} {op : Unary} {m : MemOp} {s : State} (lone : s.Lone) (inv : s.Inv)
    (error : s.busError .data false [ea m s] = true ∨ s.busError .data true [ea m s] = true)
    (hx : exec i s = rmw8 (unaryOp op) m (memLen m) s) (hl : memLen m = BitVec.ofNat 20 i.length) :
    ∃ t, exec i s = .next t ∧ GoesOn i s t ∧ BerrLatched s t ∧
      Frame [.n, .z, .v, .c, .berrLatch, .berrWait] [ea m s] s t := by
  obtain ⟨v, u, read, first⟩ := lone.readByte (ea m s)
  have wf : Memory.wf u.mem = true := by
    have kept := Kept.readByte (ea m s) s
    rw [read] at kept
    exact (kept.inv inv).mem_wf
  obtain ⟨second, -⟩ := (first.lone lone).writeByte wf (ea m s) (unaryOp op v s.ccr).1
  have same : u.busError .data true [ea m s] = s.busError .data true [ea m s] := by
    rw [State.busError, State.busError, first.working.platform]
  have noted := first.trans second
  have next : rmw8 (unaryOp op) m (memLen m) s = .next (((u.writeByte (ea m s) (unaryOp op v s.ccr).1).setFlags
      (unaryOp op v s.ccr).2).advance (memLen m)) := by
    simp only [rmw8, read]
  exact ⟨_, hx.trans next, (noted.latched (by rw [same, Bool.or_eq_true]; exact error)).finish (ws := []) noted.working
    (FlagFrame.unaryOp ..) hl⟩

/-! ### The rows -/

theorem Bin.Writes.add8 (carry : Bool) : Bin.Writes (addOp8 carry) [.h, .n, .z, .v, .c] := fun _ _ _ =>
  FlagFrame.add8 ..

theorem Bin.Writes.add16 (carry : Bool) : Bin.Writes (addOp16 carry) [.n, .z, .v, .c] := fun _ _ _ => FlagFrame.addW ..

theorem Bin.Writes.sub {w : Nat} (carry : Bool) : Bin.Writes (subOp (w := w) carry) [.n, .z, .v, .c] := fun _ _ _ =>
  FlagFrame.subW ..

theorem Bin.Writes.logic {w : Nat} (op : Bitwise) : Bin.Writes (logicOp (w := w) op) [.n, .z, .v] := fun _ _ _ =>
  FlagFrame.logic ..

theorem Bin.Writes.load {w : Nat} : Bin.Writes (opLoad (w := w)) [.n, .z, .v] := fun _ _ _ => FlagFrame.logic ..

/-- Settles O13: each row is one shape of instruction with a memory operand. -/
theorem busErrorLatched : Obligations.BusErrorLatched := by
  intro s m inv noBkpt noMasters closed
  have lone : s.Lone := ⟨noBkpt, noMasters, closed⟩
  simp only [List.forall_mem_cons]
  refine ⟨fun error => ⟨exec_ldaa_isResult m lone, ?_⟩, fun error => ?_, fun error => ?_, fun error => ?_, fun error => ?_⟩
  · exact ⟨exec_bin8_berr (r := .a) lone error (.add8 false) rfl (memLen_encMem _ _ m),
    exec_bin8_berr (r := .b) lone error (.add8 false) rfl (memLen_encMem _ _ m),
    exec_bin8_berr (r := .a) lone error (.add8 true) rfl (memLen_encMem _ _ m),
    exec_bin8_berr (r := .b) lone error (.add8 true) rfl (memLen_encMem _ _ m),
    exec_bin8_berr (r := .a) lone error (.sub false) rfl (memLen_encMem _ _ m),
    exec_bin8_berr (r := .b) lone error (.sub false) rfl (memLen_encMem _ _ m),
    exec_bin8_berr (r := .a) lone error (.sub true) rfl (memLen_encMem _ _ m),
    exec_bin8_berr (r := .b) lone error (.sub true) rfl (memLen_encMem _ _ m),
    exec_cmp8_berr (r := .a) lone error (.sub false) rfl (memLen_encMem _ _ m),
    exec_cmp8_berr (r := .b) lone error (.sub false) rfl (memLen_encMem _ _ m),
    exec_bin8_berr (r := .a) lone error (.logic .and) rfl (memLen_encMem _ _ m),
    exec_bin8_berr (r := .b) lone error (.logic .and) rfl (memLen_encMem _ _ m),
    exec_bin8_berr (r := .a) lone error (.logic .or) rfl (memLen_encMem _ _ m),
    exec_bin8_berr (r := .b) lone error (.logic .or) rfl (memLen_encMem _ _ m),
    exec_bin8_berr (r := .a) lone error (.logic .eor) rfl (memLen_encMem _ _ m),
    exec_bin8_berr (r := .b) lone error (.logic .eor) rfl (memLen_encMem _ _ m),
    exec_cmp8_berr (r := .a) lone error (.logic .and) rfl (memLen_encMem _ _ m),
    exec_cmp8_berr (r := .b) lone error (.logic .and) rfl (memLen_encMem _ _ m),
    exec_bin8_berr (r := .a) lone error .load rfl (memLen_encMem _ _ m),
    exec_bin8_berr (r := .b) lone error .load rfl (memLen_encMem _ _ m),
    List.forall_mem_nil _⟩
  · exact ⟨fun _ => exec_bin16_berr (r := .d) lone error (.add16 false) rfl (memLen_encMemD _ m),
    fun _ => exec_bin16_berr (r := .e) lone error (.add16 false) rfl (memLen_encMemE _ m),
    fun _ => exec_bin16_berr (r := .d) lone error (.add16 true) rfl (memLen_encMemD _ m),
    fun _ => exec_bin16_berr (r := .e) lone error (.add16 true) rfl (memLen_encMemE _ m),
    fun _ => exec_bin16_berr (r := .d) lone error (.sub false) rfl (memLen_encMemD _ m),
    fun _ => exec_bin16_berr (r := .e) lone error (.sub false) rfl (memLen_encMemE _ m),
    fun _ => exec_bin16_berr (r := .d) lone error (.sub true) rfl (memLen_encMemD _ m),
    fun _ => exec_bin16_berr (r := .e) lone error (.sub true) rfl (memLen_encMemE _ m),
    fun _ => exec_cmp16_berr (r := .d) lone error (.sub false) rfl (memLen_encMemD _ m),
    fun _ => exec_cmp16_berr (r := .e) lone error (.sub false) rfl (memLen_encMemE _ m),
    fun _ => exec_cmp16_berr (r := .ix) lone error (.sub false) rfl (memLen_encMem _ _ m),
    fun _ => exec_cmp16_berr (r := .iy) lone error (.sub false) rfl (memLen_encMem _ _ m),
    fun _ => exec_cmp16_berr (r := .iz) lone error (.sub false) rfl (memLen_encMem _ _ m),
    fun _ => exec_cmp16_berr (r := .sp) lone error (.sub false) rfl (memLen_encMem _ _ m),
    fun _ => exec_bin16_berr (r := .d) lone error (.logic .and) rfl (memLen_encMemD _ m),
    fun _ => exec_bin16_berr (r := .e) lone error (.logic .and) rfl (memLen_encMemE _ m),
    fun _ => exec_bin16_berr (r := .d) lone error (.logic .or) rfl (memLen_encMemD _ m),
    fun _ => exec_bin16_berr (r := .e) lone error (.logic .or) rfl (memLen_encMemE _ m),
    fun _ => exec_bin16_berr (r := .d) lone error (.logic .eor) rfl (memLen_encMemD _ m),
    fun _ => exec_bin16_berr (r := .e) lone error (.logic .eor) rfl (memLen_encMemE _ m),
    fun _ => exec_bin16_berr (r := .d) lone error .load rfl (memLen_encMemD _ m),
    fun _ => exec_bin16_berr (r := .e) lone error .load rfl (memLen_encMemE _ m),
    fun _ => exec_bin16_berr (r := .ix) lone error .load rfl (memLen_encMem _ _ m),
    fun _ => exec_bin16_berr (r := .iy) lone error .load rfl (memLen_encMem _ _ m),
    fun _ => exec_bin16_berr (r := .iz) lone error .load rfl (memLen_encMem _ _ m),
    fun _ => exec_bin16_berr (r := .sp) lone error .load rfl (memLen_encMem _ _ m),
    List.forall_mem_nil _⟩
  · exact ⟨exec_store8_berr lone inv error rfl (memLen_encMem _ _ m),
    exec_store8_berr lone inv error rfl (memLen_encMem _ _ m),
    List.forall_mem_nil _⟩
  · exact ⟨fun _ => exec_store16_berr lone inv error rfl (memLen_encMemD _ m),
    fun _ => exec_store16_berr lone inv error rfl (memLen_encMemE _ m),
    fun _ => exec_store16_berr lone inv error rfl (memLen_encMem _ _ m),
    fun _ => exec_store16_berr lone inv error rfl (memLen_encMem _ _ m),
    fun _ => exec_store16_berr lone inv error rfl (memLen_encMem _ _ m),
    fun _ => exec_store16_berr lone inv error rfl (memLen_encMem _ _ m),
    List.forall_mem_nil _⟩
  · exact ⟨fun _ => exec_rmw8_berr (op := .com) lone inv error rfl (memLen_encMem _ _ m),
    fun _ => exec_rmw8_berr (op := .dec) lone inv error rfl (memLen_encMem _ _ m),
    fun _ => exec_rmw8_berr (op := .neg) lone inv error rfl (memLen_encMem _ _ m),
    fun _ => exec_rmw8_berr (op := .inc) lone inv error rfl (memLen_encMem _ _ m),
    fun _ => exec_rmw8_berr (op := .asl) lone inv error rfl (memLen_encMem _ _ m),
    fun _ => exec_rmw8_berr (op := .rol) lone inv error rfl (memLen_encMem _ _ m),
    fun _ => exec_rmw8_berr (op := .asr) lone inv error rfl (memLen_encMem _ _ m),
    fun _ => exec_rmw8_berr (op := .ror) lone inv error rfl (memLen_encMem _ _ m),
    fun _ => exec_rmw8_berr (op := .lsr) lone inv error rfl (memLen_encMem _ _ m),
    List.forall_mem_nil _⟩

end Sys2Proof.Machine
end

section
/-!
PROOFS. The commands of background debug mode (60_exceptions.md section 9).
-/

namespace Sys2Proof.Machine

/-! ### The step -/

/-- In background mode a step is one command. -/
theorem NextInputs.step_background {p : Pins} {rest : List Pins} {s : State} (h : NextInputs p rest s)
    (hr : p.reset = .off) (hrun : s.run = .background) : step s = .next (bdmStep (s.withInputs p rest)) := by
  have background : (s.withInputs p rest).run = .background := hrun
  rw [h.step_off hr, stepBody]
  simp only [background]

theorem bdmStep_nil {s : State} (h : s.pins.bdm = []) : bdmStep s = s := by
  rw [bdmStep, h]

theorem bdmStep_cons {s : State} {op : Word} {args : List Word} (h : s.pins.bdm = op :: args) :
    bdmStep s = bdmCommand op args s := by
  rw [bdmStep, h]

/-- The words of the command are those of the inputs of the step. -/
theorem bdmStep_withInputs {p : Pins} {rest : List Pins} {s : State} {op : Word} {args : List Word}
    (h : p.bdm = op :: args) : bdmStep (s.withInputs p rest) = bdmCommand op args (s.withInputs p rest) :=
  bdmStep_cons (s := s.withInputs p rest) h

/-- The words of the reply are appended to the outputs. -/
def State.reply (words : List (BitVec 17)) (s : State) : State := { s with events := s.events ++ [.bdmReply words] }

theorem bdmReply_of_ne_nil {words : List (BitVec 17)} (h : words ≠ []) (s : State) : bdmReply words s = s.reply words := by
  cases words with
  | nil => exact absurd rfl h
  | cons w ws => rfl

theorem Frame.reply (words : List (BitVec 17)) (s : State) : Frame [.events] [] s (s.reply words) :=
  Frame.of_parts rfl rfl rfl fun l h => by
    cases l <;> first | exact absurd (by decide) h | exact rfl | exact ⟨rfl, rfl⟩

/-- A command made of the state `s` with the inputs taken changes what it changes, the inputs and the outputs. -/
theorem Frame.command {may : List Loc} {bytes : List Addr} {p : Pins} {rest : List Pins} {s t : State}
    (h : Frame may bytes (s.withInputs p rest) t) (words : List (BitVec 17)) (platform : t.platform = s.platform) :
    Frame ([.inputs, .events] ++ may) bytes s (t.reply words) := by
  have whole := ((Frame.withInputs p rest s).trans rfl h).trans platform (Frame.reply words t)
  refine whole.mono (fun l m => ?_) (fun x m => by simpa using m)
  simp only [List.mem_append, List.mem_cons, List.not_mem_nil, or_false] at m ⊢
  tauto

theorem Frame.replied (p : Pins) (rest : List Pins) (words : List (BitVec 17)) (s : State) :
    Frame [.inputs, .events] [] s ((s.withInputs p rest).reply words) := (Frame.refl _).command words rfl

/-- The free values that a reply uses are no part of the frame. -/
theorem Frame.replied_bump (p : Pins) (rest : List Pins) (words : List (BitVec 17)) (s : State) :
    Frame [.inputs, .events] [] s ((s.withInputs p rest).bump.reply words) := (Working.bump _).frame.command words rfl

/-! ### Commands that only answer -/

theorem bdmCommand_nop (s : State) : bdmCommand 0x1789#16 [] s = s.reply [0x0FFFF#17] := rfl

theorem bdmCommand_illegal {w : Word} (h : w.toNat < 0x1780 ∨ 0x178B < w.toNat) (s : State) :
    bdmCommand w [] s = s.reply [0x1FFFF#17] := by
  unfold bdmCommand
  split <;> first | omega | skip
  rw [if_neg (by omega)]
  rfl

theorem bdmCommand_go (s : State) : bdmCommand 0x1788#16 [] s = s.setRun .running := rfl

theorem bdmCommand_rpcsp (s : State) :
    ∃ f g : BitVec 12, bdmCommand 0x1782#16 [] s = State.reply
      [0#1 ++ (f ++ bank (s.pc + 6)), 0#1 ++ offset (s.pc + 6), 0#1 ++ (g ++ s.sk), 0#1 ++ s.sp, 0x0FFFF#17]
      s.bump.bump := ⟨_, _, rfl⟩

theorem bdmCommand_wpcsp (pk pc sk sp : Word) (s : State) :
    bdmCommand 0x1783#16 [pk, pc, sk, sp] s = State.reply [0x0FFFF#17]
      { s.jumpTo ((pk.extractLsb' 0 4 ++ pc) - 6) with sk := sk.extractLsb' 0 4, sp := sp } := rfl

theorem goesTo_wpcsp (pk pc : Word) (s : State) :
    GoesTo (pk.toNat % 16 * 65536 + pc.toNat - 6) (s.jumpTo ((pk.extractLsb' 0 4 ++ pc) - 6)) :=
  goesTo_jumpTo (toNat_pulled_sub pk pc (d := 6) (by decide)) s

theorem Frame.wpcsp (a : Addr) (sk : Nibble) (sp : Word) (s : State) :
    Frame [.sp, .sk] [] s { s.jumpTo a with sk := sk, sp := sp } :=
  Frame.of_parts rfl rfl rfl fun l h => by
    cases l <;> first | exact absurd (by decide) h | exact rfl | exact ⟨rfl, rfl⟩

theorem bdmCommand_rdmac (s : State) :
    ∃ f : BitVec 11, bdmCommand 0x178A#16 [] s = State.reply
      [0#1 ++ s.mac.hr, 0#1 ++ s.mac.ir, 0#1 ++ s.mac.am.extractLsb' 0 16, 0#1 ++ s.mac.am.extractLsb' 16 16,
        0#1 ++ (BitVec.ofBool s.mac.sl ++ f ++ s.mac.am.extractLsb' 32 4), 0#1 ++ (s.mac.xmsk ++ s.mac.ymsk), 0x0FFFF#17]
      s.bump := ⟨_, rfl⟩

theorem bdmCommand_wrmac (masks slw high low ir hr : Word) (s : State) :
    bdmCommand 0x178B#16 [masks, slw, high, low, ir, hr] s =
      (s.setMac (macOfImage hr ir low high slw masks)).reply [0x0FFFF#17] := by
  rw [macOfImage, ← loadSlWord_loadAm { s.mac with hr := hr, ir := ir, xmsk := hi masks, ymsk := lo masks }]
  rfl

/-! ### RREGM and WREGM -/

theorem rregmWord_eq {k : Nat} (hk : k < 7) (s : State) :
    rregmWord k s = [s.ccr.pack ((Config.anyWord s.draws).extractLsb' 0 4), s.k, s.iz, s.iy, s.ix, s.e, s.d].getD k 0#16 := by
  interval_cases k <;> rfl

theorem bdmCommand_rregm (mask : Word) (s : State) :
    ∃ f : Nibble, bdmCommand 0x1780#16 [mask] s = s.bump.reply ((((List.range 7).filter fun k => mask.getLsbD k).map fun k =>
      0#1 ++ [s.ccr.pack f, s.k, s.iz, s.iy, s.ix, s.e, s.d].getD k 0#16) ++ [0x0FFFF#17]) := by
  have words : ((maskBits.filter fun k => mask.getLsbD k).map fun k => bdmData (rregmWord k s)) =
      ((List.range 7).filter fun k => mask.getLsbD k).map fun k => 0#1 ++
        [s.ccr.pack ((Config.anyWord s.draws).extractLsb' 0 4), s.k, s.iz, s.iy, s.ix, s.e, s.d].getD k 0#16 :=
    List.map_congr_left fun k hk => by
      rw [bdmData, rregmWord_eq (List.mem_range.mp (List.mem_of_mem_filter hk))]
  refine ⟨(Config.anyWord s.draws).extractLsb' 0 4, ?_⟩
  rw [← words]
  exact bdmReply_of_ne_nil (List.append_ne_nil_of_right_ne_nil _ (List.cons_ne_nil _ _)) _

/-- `t` is `s` after WREGM took the mask bits below `k`. -/
structure WrittenBelow (mask : Word) (data : List Word) (k : Nat) (s t : State) : Prop where
  loaded : ∀ j, j < k → mask.getLsbD j = true → Pulled j (data.getD (setBelow (lo mask) j) 0#16) t
  pc : t.pc = s.pc
  platform : t.platform = s.platform
  events : t.events = s.events
  frame : Frame (pulmLocsBelow (lo mask) k) [] s t

theorem getLsbD_lo {k : Nat} (hk : k < 8) (w : Word) : (lo w).getLsbD k = w.getLsbD k := by
  simp [lo, hk]

theorem pulmLocsBelow_succ (mask : Byte) (k : Nat) :
    pulmLocsBelow mask (k + 1) = pulmLocsBelow mask k ++ if mask.getLsbD k then pulmLocs k else [] := by
  rw [pulmLocsBelow, List.range_succ, List.flatMap_append, List.flatMap_singleton, ← pulmLocsBelow]

/-- The parts `ls` where `b` holds. -/
def locsIf (b : Bool) (ls : List Loc) : List Loc := if b then ls else []

theorem pulmLocsBelow_lo (mask : Word) :
    pulmLocsBelow (lo mask) 7 = locsIf (mask.getLsbD 0) (pulmLocs 0) ++ locsIf (mask.getLsbD 1) (pulmLocs 1) ++
      locsIf (mask.getLsbD 2) (pulmLocs 2) ++ locsIf (mask.getLsbD 3) (pulmLocs 3) ++
      locsIf (mask.getLsbD 4) (pulmLocs 4) ++ locsIf (mask.getLsbD 5) (pulmLocs 5) ++
      locsIf (mask.getLsbD 6) (pulmLocs 6) := by
  have none : pulmLocsBelow (lo mask) 0 = [] := rfl
  simp (disch := decide) only [pulmLocsBelow_succ, getLsbD_lo, none, List.nil_append, locsIf]

theorem pulmLoad_platform {k : Nat} (hk : k < 7) (v : Word) (t : State) : (pulmLoad k v t).platform = t.platform := by
  interval_cases k <;> rfl

theorem pulmLoad_events {k : Nat} (hk : k < 7) (v : Word) (t : State) : (pulmLoad k v t).events = t.events := by
  interval_cases k <;> rfl

theorem WrittenBelow.skip {mask : Word} {data : List Word} {k : Nat} {s t : State} (h : WrittenBelow mask data k s t)
    (bit : mask.getLsbD k = false) : WrittenBelow mask data (k + 1) s t := by
  refine ⟨fun j hj hm => h.loaded j ?_ hm, h.pc, h.platform, h.events, h.frame.mono (fun l m => ?_) fun _ m => m⟩
  · have : j ≠ k := fun e => by simp [← e, hm] at bit
    omega
  · rw [pulmLocsBelow_succ]
    exact List.mem_append_left _ m

theorem WrittenBelow.load {mask : Word} {data : List Word} {k : Nat} {s t : State} (h : WrittenBelow mask data k s t)
    (hk : k < 7) (bit : mask.getLsbD k = true) :
    WrittenBelow mask data (k + 1) s (pulmLoad k (data.getD (setBelow (lo mask) k) 0#16) t) := by
  refine ⟨fun j hj hm => ?_, (pulmLoad_pc hk ..).trans h.pc, (pulmLoad_platform hk ..).trans h.platform,
    (pulmLoad_events hk ..).trans h.events, (h.frame.trans h.platform (Frame.pulmLoad hk _ _)).mono (fun l m => ?_) (by simp)⟩
  · obtain below | rfl := Nat.lt_succ_iff_lt_or_eq.mp hj
    · exact pulled_pulmLoad_of_lt below hk _ (h.loaded j below hm)
    · exact pulled_pulmLoad hk _ _
  · rw [pulmLocsBelow_succ, getLsbD_lo (by omega), bit, if_pos rfl]
    exact m

theorem wregmLoad_of_clear {bit : Nat} {mask : Word} (h : mask.getLsbD bit = false) (bits : List Nat) (data : List Word)
    (s : State) : wregmLoad (bit :: bits) mask data s = wregmLoad bits mask data s := by
  simp [wregmLoad, h]

theorem wregmLoad_of_set {bit : Nat} {mask : Word} (h : mask.getLsbD bit = true) (bits : List Nat) (v : Word)
    (data : List Word) (s : State) :
    wregmLoad (bit :: bits) mask (v :: data) s = wregmLoad bits mask data (pulmLoad bit v s) := by
  simp [wregmLoad, h]

theorem setBelow_mono (mask : Byte) : Monotone (setBelow mask) :=
  monotone_nat_of_le_succ fun k => by
    rw [setBelow_succ]
    exact Nat.le_add_right ..

/-- The mask bits from `k` on take the words of `data` from the one for bit `k` on. -/
theorem wregmLoad_spec {mask : Word} {data : List Word} (length : data.length = setBelow (lo mask) 7) {s : State}
    (n : Nat) {k : Nat} (hn : k + n = 7) {t : State} (h : WrittenBelow mask data k s t) :
    ∃ u, wregmLoad (List.range' k n) mask (data.drop (setBelow (lo mask) k)) t = some u ∧ WrittenBelow mask data 7 s u := by
  induction n generalizing k t with
  | zero =>
    obtain rfl : k = 7 := by omega
    exact ⟨t, rfl, h⟩
  | succ n ih =>
    have hk : k < 7 := by omega
    have count := setBelow_succ (lo mask) k
    rw [getLsbD_lo (by omega)] at count
    rw [List.range'_succ]
    cases bit : mask.getLsbD k with
    | false =>
      have same : setBelow (lo mask) (k + 1) = setBelow (lo mask) k := by simpa [bit] using count
      rw [wregmLoad_of_clear bit, ← same]
      exact ih (by omega) (h.skip bit)
    | true =>
      rw [bit, if_pos rfl] at count
      have room : setBelow (lo mask) k < data.length := by
        rw [length]
        have above : setBelow (lo mask) (k + 1) ≤ setBelow (lo mask) 7 := setBelow_mono (lo mask) hk
        omega
      rw [List.drop_eq_getElem_cons room, wregmLoad_of_set bit, ← count]
      have word : data.getD (setBelow (lo mask) k) 0#16 = data[setBelow (lo mask) k] := List.getD_eq_getElem _ _ room
      rw [← word]
      exact ih (by omega) (h.load hk bit)

/-- WREGM with one data word for each bit of its mask (60_exceptions.md R694). -/
theorem bdmCommand_wregm {mask : Word} {data : List Word} (length : data.length = setBelow (lo mask) 7) (s : State) :
    ∃ u, bdmCommand 0x1781#16 (mask :: data) s = u.reply [0x0FFFF#17] ∧ WrittenBelow mask data 7 s u := by
  have start : WrittenBelow mask data 0 s s :=
    ⟨fun _ hj => absurd hj (Nat.not_lt_zero _), rfl, rfl, rfl, (Frame.refl s).mono (by simp) (by simp)⟩
  obtain ⟨u, load, written⟩ := wregmLoad_spec length 7 rfl start
  refine ⟨u, ?_, written⟩
  have hx : bdmCommand 0x1781#16 (mask :: data) s = bdmWregm mask data s := rfl
  have all : wregmLoad maskBits mask data s = some u := load
  rw [hx, bdmWregm, all]
  rfl

/-- Settles O17: the command on the pins, whichever it is. -/
theorem backgroundControl : Obligations.BackgroundControl := by
  intro s p rest inputs off background
  refine ⟨_, inputs.step_background off background, fun h => ?_, fun h => ?_, fun w h range => ?_, fun h => ?_, fun h => ?_,
    fun pk pc sk sp h => ?_, fun mask h => ?_, fun mask data h length => ?_, fun h => ?_,
    fun masks slw high low ir hr h => ?_⟩
  · rw [bdmStep_nil (s := s.withInputs p rest) h]
    exact ⟨rfl, Frame.withInputs p rest s⟩
  · rw [bdmStep_withInputs h, bdmCommand_nop]
    exact ⟨rfl, rfl, Frame.replied p rest _ s⟩
  · rw [bdmStep_withInputs h, bdmCommand_illegal range]
    exact ⟨rfl, rfl, Frame.replied p rest _ s⟩
  · rw [bdmStep_withInputs h, bdmCommand_go]
    exact ⟨rfl, rfl, (Frame.withInputs p rest s).trans rfl (Frame.setRun .running _)⟩
  · obtain ⟨f, g, command⟩ := bdmCommand_rpcsp (s.withInputs p rest)
    rw [bdmStep_withInputs h, command]
    exact ⟨rfl, ((Working.bump _).trans (Working.bump _)).frame.command _ rfl, f, g, rfl⟩
  · rw [bdmStep_withInputs h, bdmCommand_wpcsp]
    exact ⟨goesTo_wpcsp pk pc (s.withInputs p rest), BitVec.extractLsb'_toNat 0 4 sk, rfl, rfl,
      (Frame.wpcsp _ _ _ (s.withInputs p rest)).command _ rfl⟩
  · obtain ⟨f, command⟩ := bdmCommand_rregm mask (s.withInputs p rest)
    rw [bdmStep_withInputs h, command]
    exact ⟨rfl, Frame.replied_bump p rest _ s, f, rfl⟩
  · obtain ⟨u, command, written⟩ := bdmCommand_wregm length (s.withInputs p rest)
    rw [bdmStep_withInputs h, command]
    refine ⟨written.pc, ?_, written.loaded 0 (by decide), written.loaded 1 (by decide), written.loaded 2 (by decide),
      written.loaded 3 (by decide), written.loaded 4 (by decide), written.loaded 5 (by decide), written.loaded 6 (by decide),
      (written.frame.command _ written.platform).mono (fun l m => ?_) fun _ m => m⟩
    · exact congrArg (· ++ [Event.bdmReply [0x0FFFF#17]]) written.events
    · rw [pulmLocsBelow_lo] at m
      simpa only [locsIf, pulmLocs, List.append_assoc] using m
  · obtain ⟨f, command⟩ := bdmCommand_rdmac (s.withInputs p rest)
    rw [bdmStep_withInputs h, command]
    exact ⟨rfl, Frame.replied_bump p rest _ s, f, rfl⟩
  · rw [bdmStep_withInputs h, bdmCommand_wrmac]
    exact ⟨rfl, rfl, rfl, ((Frame.setMac _ _).command _ rfl).mono (by decide) fun _ m => m⟩

/-! ### Bus accesses without signals, on a quiet platform -/

theorem State.Quiet.busReadByte {s : State} (h : s.Quiet) (sp : Space) (a : Addr) :
    s.busReadByte sp a = (s.peek sp a, s) := by
  simp [State.busReadByte, h.masters, h.busError]

theorem State.Quiet.busReadWord {s : State} (h : s.Quiet) (sp : Space) (a : Addr) :
    s.busReadWord sp a = (s.peekWord sp a, s) := by
  simp [State.busReadWord, State.peekWord, h.masters, h.busError]

theorem State.Quiet.busReadLong {s : State} (h : s.Quiet) (sp : Space) (a : Addr) :
    s.busReadLong sp a = ((s.peekWord sp a, s.peekWord sp (a + 2)), s) := by
  simp [State.busReadLong, State.peekWord, h.masters, h.busError]

theorem State.Quiet.busWriteByte {s : State} (h : s.Quiet) (sp : Space) (a : Addr) (v : Byte) :
    s.busWriteByte sp a v = s.poke sp a v := by
  simp [State.busWriteByte, h.masters, h.busError]

theorem State.Quiet.busWriteWord {s : State} (h : s.Quiet) (sp : Space) (a : Addr) (v : Word) :
    s.busWriteWord sp a v = (s.poke sp a (hi v)).poke sp (a + 1) (lo v) := by
  simp [State.busWriteWord, h.masters, h.busError, (h.poke sp a (hi v)).masters]

theorem State.Quiet.busWriteLong {s : State} (h : s.Quiet) (a : Addr) (high low : Word) :
    s.busWriteLong .data a high low = Machine.pokeWord (a + 2) low (Machine.pokeWord a high s) := by
  have first := h.poke .data a (hi high)
  have second := first.poke .data (a + 1) (lo high)
  have third := second.poke .data (a + 2) (hi low)
  simp only [State.busWriteLong, h.masters, h.busError, Bool.false_eq_true, if_false]
  rw [first.masters, second.masters, third.masters, Machine.pokeWord, Machine.pokeWord]

/-! ### Program space -/

/-- Where the spaces are one, a store to program space is a store to data space. -/
theorem State.poke_program_shared {s : State} (shared : s.platform.splitSpaces = false) (a : Addr) (v : Byte) :
    s.poke .program a v = s.poke .data a v := by
  simp [State.poke, shared]

theorem State.poke_program_split {s : State} (split : s.platform.splitSpaces = true) (a : Addr) (v : Byte) :
    s.poke .program a v = { s with pmem := Memory.set s.pmem a.toNat v, stores := (.program, a) :: s.stores } := by
  simp [State.poke, split]

theorem State.peek_program_shared {s : State} (shared : s.platform.splitSpaces = false) (x : Addr) :
    s.peek .program x = s.peek .data x := by
  simp [State.peek, State.space, shared]

theorem State.peek_program_split {s : State} (split : s.platform.splitSpaces = true) (x : Addr) :
    s.peek .program x = Memory.get s.pmem x.toNat := by
  simp [State.peek, State.space, split]

/-- Reading program space after a store to it. -/
theorem State.peek_poke_program_self {s : State} (inv : s.Inv) (a : Addr) (v : Byte) :
    (s.poke .program a v).peek .program a = v := by
  cases split : s.platform.splitSpaces with
  | false =>
    rw [State.poke_program_shared split, State.peek_program_shared (s := s.poke .data a v) split,
      State.peek_poke_self inv.mem_wf]
  | true =>
    rw [State.peek_program_split ((s.poke_platform ..).symm ▸ split), State.poke_program_split split]
    exact Memory.get_set_self s.pmem a.toNat v inv.pmem_wf

theorem State.peek_poke_program_ne (s : State) {a x : Addr} (v : Byte) (h : x ≠ a) :
    (s.poke .program a v).peek .program x = s.peek .program x := by
  cases split : s.platform.splitSpaces with
  | false =>
    rw [State.poke_program_shared split, State.peek_program_shared (s := s.poke .data a v) split,
      State.peek_poke_ne s v h, State.peek_program_shared split]
  | true =>
    rw [State.peek_program_split ((s.poke_platform ..).symm ▸ split), State.poke_program_split split,
      State.peek_program_split split]
    exact Memory.get_set_ne s.pmem v fun e => h (BitVec.eq_of_toNat_eq e)

/-- Where the spaces are split, data space does not see a store to program space. -/
theorem State.peek_data_poke_program {s : State} (split : s.platform.splitSpaces = true) (a x : Addr) (v : Byte) :
    (s.poke .program a v).peek .data x = s.peek .data x := by
  rw [State.poke_program_split split]
  rfl

theorem Loc.kept_poke_program (l : Loc) (s : State) (a : Addr) (v : Byte) : l.kept s (s.poke .program a v) := by
  cases split : s.platform.splitSpaces with
  | false =>
    rw [State.poke_program_shared split]
    exact (Frame.poke a v s).parts l (by simp)
  | true =>
    rw [State.poke_program_split split]
    cases l <;> first | exact rfl | exact ⟨rfl, rfl⟩

/-! ### The memory commands -/

theorem bdmCommand_rdmem {s : State} (quiet : s.Quiet) (w0 w1 : Word) :
    ∃ words, bdmCommand 0x1784#16 [w0, w1] s = s.reply words ∧
      (w0.getLsbD 15 = false → w0.getLsbD 14 = false → words = [0#1 ++ (0xFF#8 ++ s.peek .data (bdmAddress w0 w1))]) ∧
      (w0.getLsbD 15 = false → w0.getLsbD 14 = true → words = [0#1 ++ s.peekWord .data (bdmAddress w0 w1)]) ∧
      (w0.getLsbD 15 = true → words = [0#1 ++ s.peekWord .data (bdmAddress w0 w1),
        0#1 ++ s.peekWord .data (bdmAddress w0 w1 + 2)]) := by
  have hx : bdmCommand 0x1784#16 [w0, w1] s = bdmRdmem w0 w1 s := rfl
  rw [hx, bdmRdmem, quiet.busReadLong, quiet.busReadWord, quiet.busReadByte]
  cases w0.getLsbD 15 with
  | true =>
    exact ⟨_, rfl, fun h => absurd h.symm Bool.false_ne_true, fun h => absurd h.symm Bool.false_ne_true, fun _ => rfl⟩
  | false =>
    cases w0.getLsbD 14 with
    | true =>
      exact ⟨_, rfl, fun _ h => absurd h.symm Bool.false_ne_true, fun _ _ => rfl, fun h => absurd h Bool.false_ne_true⟩
    | false => exact ⟨_, rfl, fun _ _ => rfl, fun _ h => absurd h Bool.false_ne_true, fun h => absurd h Bool.false_ne_true⟩

theorem bdmCommand_wdmem_byte {s : State} (quiet : s.Quiet) {w0 : Word} (short : w0.getLsbD 15 = false)
    (byte : w0.getLsbD 14 = false) (w1 v : Word) :
    bdmCommand 0x1785#16 [w0, w1, v] s = (s.poke .data (bdmAddress w0 w1) (lo v)).reply [0x0FFFF#17] := by
  have hx : bdmCommand 0x1785#16 [w0, w1, v] s = if w0.getLsbD 15 then bdmIncomplete s else bdmWdmem w0 w1 v s := rfl
  rw [hx, short, if_neg Bool.false_ne_true, bdmWdmem, byte, quiet.busWriteByte]
  rfl

theorem bdmCommand_wdmem_word {s : State} (quiet : s.Quiet) {w0 : Word} (short : w0.getLsbD 15 = false)
    (word : w0.getLsbD 14 = true) (w1 v : Word) :
    bdmCommand 0x1785#16 [w0, w1, v] s = (pokeWord (bdmAddress w0 w1) v s).reply [0x0FFFF#17] := by
  have hx : bdmCommand 0x1785#16 [w0, w1, v] s = if w0.getLsbD 15 then bdmIncomplete s else bdmWdmem w0 w1 v s := rfl
  rw [hx, short, if_neg Bool.false_ne_true, bdmWdmem, word, quiet.busWriteWord, pokeWord]
  rfl

theorem bdmCommand_wdmem_long {s : State} (quiet : s.Quiet) {w0 : Word} (long : w0.getLsbD 15 = true)
    (w1 high low : Word) :
    bdmCommand 0x1785#16 [w0, w1, high, low] s =
      (pokeWord (bdmAddress w0 w1 + 2) low (pokeWord (bdmAddress w0 w1) high s)).reply [0x0FFFF#17] := by
  have hx : bdmCommand 0x1785#16 [w0, w1, high, low] s =
      if w0.getLsbD 15 then bdmWdmemLong w0 w1 high low s else bdmWdmem w0 w1 high s := rfl
  rw [hx, long, if_pos rfl, bdmWdmemLong, quiet.busWriteLong]
  rfl

theorem bdmCommand_rpmem {s : State} (quiet : s.Quiet) (w0 w1 : Word) :
    bdmCommand 0x1786#16 [w0, w1] s =
      s.reply [0#1 ++ s.peekWord .program (even20 (bdmAddress w0 w1))] := by
  have hx : bdmCommand 0x1786#16 [w0, w1] s = bdmRpmem w0 w1 s := rfl
  rw [hx, bdmRpmem, quiet.busReadWord]
  rfl

/-- The word stored by WPMEM. -/
def State.pokeProgram (a : Addr) (v : Word) (s : State) : State :=
  (s.poke .program a (hi v)).poke .program (a + 1) (lo v)

theorem bdmCommand_wpmem {s : State} (quiet : s.Quiet) (w0 w1 v : Word) :
    bdmCommand 0x1787#16 [w0, w1, v] s = (s.pokeProgram (even20 (bdmAddress w0 w1)) v).reply [0x0FFFF#17] := by
  have hx : bdmCommand 0x1787#16 [w0, w1, v] s = bdmWpmem w0 w1 v s := rfl
  rw [hx, bdmWpmem, quiet.busWriteWord]
  rfl

theorem State.peekWord_pokeProgram {s : State} (inv : s.Inv) (a : Addr) (v : Word) :
    (s.pokeProgram a v).peekWord .program a = v := by
  have inv' : (s.poke .program a (hi v)).Inv := (Kept.poke .program a (hi v) s).inv inv
  rw [State.peekWord, State.pokeProgram, State.peek_poke_program_self inv', State.peek_poke_program_ne _ _ (succ_ne a).symm,
    State.peek_poke_program_self inv, hi_append_lo]

theorem State.peek_pokeProgram_ne (s : State) {a x : Addr} (v : Word) (h : x ∉ wordAt a) :
    (s.pokeProgram a v).peek .program x = s.peek .program x := by
  simp only [wordAt, List.mem_cons, List.not_mem_nil, or_false, not_or] at h
  rw [State.pokeProgram, State.peek_poke_program_ne _ _ h.2, State.peek_poke_program_ne _ _ h.1]

theorem State.peek_data_pokeProgram {s : State} (split : s.platform.splitSpaces = true) (a x : Addr) (v : Word) :
    (s.pokeProgram a v).peek .data x = s.peek .data x := by
  rw [State.pokeProgram, State.peek_data_poke_program ((s.poke_platform ..).symm ▸ split),
    State.peek_data_poke_program split]

theorem Loc.kept.trans {l : Loc} {s t u : State} (h : l.kept s t) (k : l.kept t u) : l.kept s u := by
  cases l <;> first | exact Eq.trans k h | exact ⟨k.1.trans h.1, k.2.trans h.2⟩

theorem Loc.kept_pokeProgram (l : Loc) (s : State) (a : Addr) (v : Word) : l.kept s (s.pokeProgram a v) :=
  (l.kept_poke_program s a (hi v)).trans (l.kept_poke_program _ (a + 1) (lo v))

theorem State.poke_program_pc (s : State) (a : Addr) (v : Byte) : (s.poke .program a v).pc = s.pc := by
  unfold State.poke
  split <;> rfl

theorem State.pokeProgram_pc (s : State) (a : Addr) (v : Word) : (s.pokeProgram a v).pc = s.pc := by
  rw [State.pokeProgram, State.poke_program_pc, State.poke_program_pc]

theorem State.pokeProgram_events (s : State) (a : Addr) (v : Word) : (s.pokeProgram a v).events = s.events :=
  Loc.kept_pokeProgram .events s a v

/-- Settles O18: on a quiet platform each command is one read or one store and its reply. -/
theorem backgroundMemory : Obligations.BackgroundMemory := by
  intro s p rest w0 w1 inv quiet inputs off background
  have now : (s.withInputs p rest).Quiet := quiet.of_platform rfl
  refine ⟨_, inputs.step_background off background, fun h => ?_, fun v h short => ?_, fun high low h long => ?_, fun h => ?_,
    fun v h => ?_⟩
  · obtain ⟨words, command, byte, word, long⟩ := bdmCommand_rdmem now w0 w1
    rw [bdmStep_withInputs h, command]
    exact ⟨rfl, Frame.replied p rest _ s, fun h15 h14 => congrArg (fun ws => s.events ++ [Event.bdmReply ws]) (byte h15 h14),
      fun h15 h14 => congrArg (fun ws => s.events ++ [Event.bdmReply ws]) (word h15 h14),
      fun h15 => congrArg (fun ws => s.events ++ [Event.bdmReply ws]) (long h15)⟩
  · cases size : w0.getLsbD 14 with
    | false =>
      rw [bdmStep_withInputs h, bdmCommand_wdmem_byte now short size]
      exact ⟨rfl, rfl, fun _ => ⟨State.peek_poke_self inv.mem_wf _ _, (Frame.poke _ _ _).command _ rfl⟩,
        fun h => absurd h Bool.false_ne_true⟩
    | true =>
      rw [bdmStep_withInputs h, bdmCommand_wdmem_word now short size]
      exact ⟨pokeWord_pc .., congrArg (· ++ [Event.bdmReply [0x0FFFF#17]]) (pokeWord_events ..),
        fun h => absurd h.symm Bool.false_ne_true,
        fun _ => ⟨State.peekWord_pokeWord (s := s.withInputs p rest) inv.mem_wf _ _,
          (Frame.pokeWord _ _ _).command _ (pokeWord_platform ..)⟩⟩
  · obtain ⟨first, second⟩ := wordAt_add_two (bdmAddress w0 w1)
    have platform : (pokeWord (bdmAddress w0 w1) high (s.withInputs p rest)).platform = s.platform := pokeWord_platform ..
    have frame := (Frame.pokeWord (bdmAddress w0 w1) high (s.withInputs p rest)).trans platform
      (Frame.pokeWord (bdmAddress w0 w1 + 2) low _)
    rw [bdmStep_withInputs h, bdmCommand_wdmem_long now long]
    refine ⟨(pokeWord_pc ..).trans (pokeWord_pc ..), congrArg (· ++ [Event.bdmReply [0x0FFFF#17]])
      ((pokeWord_events ..).trans (pokeWord_events ..)), ?_, ?_, frame.command _ ((pokeWord_platform ..).trans platform)⟩
    · exact (State.peekWord_pokeWord_ne _ low first second).trans
        (State.peekWord_pokeWord (s := s.withInputs p rest) inv.mem_wf _ high)
    · exact State.peekWord_pokeWord (State.wf_pokeWord (s := s.withInputs p rest) inv.mem_wf _ high) _ low
  · rw [bdmStep_withInputs h, bdmCommand_rpmem now]
    exact ⟨rfl, rfl, Frame.replied p rest _ s⟩
  · have inv' : (s.withInputs p rest).Inv := ⟨inv.mem_wf, inv.pmem_wf, inv.pc_even⟩
    rw [bdmStep_withInputs h, bdmCommand_wpmem now]
    refine ⟨State.pokeProgram_pc .., congrArg (· ++ [Event.bdmReply [0x0FFFF#17]]) (State.pokeProgram_events ..),
      State.peekWord_pokeProgram inv' _ v, fun x ne => State.peek_pokeProgram_ne _ v ne,
      fun split x => State.peek_data_pokeProgram (s := s.withInputs p rest) split _ x v, fun l ne => ?_⟩
    have before := (Frame.withInputs p rest s).parts l fun m => ne (List.mem_append_left (as := [Loc.inputs]) [Loc.events] m)
    have after := (Frame.reply [0x0FFFF#17] ((s.withInputs p rest).pokeProgram (even20 (bdmAddress w0 w1)) v)).parts l
      fun m => ne (List.mem_cons_of_mem _ m)
    exact (before.trans (l.kept_pokeProgram _ _ v)).trans after

end Sys2Proof.Machine
end

section
/-!
PROOFS. RESET between steps and inside one (70_reset_and_hazards.md section 1).
-/

namespace Sys2Proof.Machine

/-! ### The reset sequence -/

theorem State.Quiet.resetSequence {s : State} (quiet : s.Quiet) :
    s.resetSequence = s.resetEntry.loadResetVector (s.peekWord .program 0x00000#20) (s.peekWord .program 0x00002#20)
      (s.peekWord .program 0x00004#20) (s.peekWord .program 0x00006#20) := by
  have entry : s.resetEntry.Quiet := quiet.of_platform rfl
  have running : s.resetEntry.run = .running := rfl
  simp only [State.resetSequence, entry.progRead, running, if_true]
  rfl

/-- The program counter loaded by reset: the bank in the low nibble of the first word, the offset in the second. -/
theorem goesTo_loadResetVector (w0 w1 w2 w3 : Word) (s : State) :
    GoesTo (w0.toNat % 16 * 65536 + w1.toNat) (s.loadResetVector w0 w1 w2 w3) := by
  have target : ((w0.extractLsb' 0 4 ++ w1 : Addr).toNat : Int) =
      ((w0.toNat % 16 * 65536 + w1.toNat : Nat) : Int) % 2 ^ 20 := by
    rw [toNat_bank_offset, BitVec.extractLsb'_toNat, Nat.shiftRight_zero]
    have := w1.isLt
    omega
  have jump := goesTo_jumpTo target s
  push_cast at jump
  exact jump

/-- The parts that the reset sequence writes (70_reset_and_hazards.md R720, R725). -/
theorem Frame.loadResetVector (w0 w1 w2 w3 : Word) (s : State) :
    Frame [.ek, .xk, .yk, .zk, .sk, .sp, .iz, .s, .ip, .sm, .run, .bdmEnabled, .berrLatch, .berrWait, .inhibit,
      .irq7Pending, .irq7Prev, .bkptPending, .faultWindow] [] s (s.resetEntry.loadResetVector w0 w1 w2 w3) :=
  Frame.of_parts rfl rfl rfl fun l h => by
    cases l <;> first | exact absurd (by decide) h | exact rfl | exact ⟨rfl, rfl⟩

/-- None of them is a part that RESET inside a step must leave (70_reset_and_hazards.md R722). -/
theorem resetKeeps_not_written : ∀ l ∈ resetKeeps,
    l ∉ [Loc.ek, .xk, .yk, .zk, .sk, .sp, .iz, .s, .ip, .sm, .run, .bdmEnabled, .berrLatch, .berrWait, .inhibit,
      .irq7Pending, .irq7Prev, .bkptPending, .faultWindow] := by
  decide

theorem NextInputs.step_between {p : Pins} {rest : List Pins} {s : State} (h : NextInputs p rest s)
    (between : p.reset = .between) : step s = .next (s.withInputs p rest).resetSequence := by
  have pin : (s.withInputs p rest).pins.reset = .between := between
  rw [step, cycle, h.takeInputs]
  simp only [pin]

theorem NextInputs.step_inside {p : Pins} {rest : List Pins} {s u : State} (h : NextInputs p rest s)
    (inside : p.reset = .inside) (body : stepBody (s.withInputs p rest) = .next u) :
    step s = .next (abortStep (s.withInputs p rest) u).resetSequence := by
  have pin : (s.withInputs p rest).pins.reset = .inside := inside
  rw [step, cycle, h.takeInputs]
  simp only [pin, body]

/-! ### What an aborted step leaves -/

/-- What the aborted step did not change stays. -/
theorem anyIf_kept {α : Type} [DecidableEq α] {old new : α} (h : new = old) (free : α) : anyIf old new free = old := by
  rw [anyIf, if_pos h.symm, h]

theorem abortStores_eq (old : State) (places : List (Space × Addr)) (t : State) :
    ∃ m p d l, abortStores old places t = { t with mem := m, pmem := p, draws := d, stores := l } := by
  induction places generalizing t with
  | nil => exact ⟨t.mem, t.pmem, t.draws, t.stores, rfl⟩
  | cons place places ih =>
    obtain ⟨sp, a⟩ := place
    obtain ⟨m, p, d, l, rest⟩ := ih (t.bump.poke sp a (anyIf (old.peek sp a) (t.peek sp a) (Config.anyByte t.draws)))
    refine ⟨m, p, d, l, rest.trans ?_⟩
    unfold State.poke
    split <;> rfl

/-- Where the spaces are one, every access is one of data space. -/
theorem State.poke_shared {s : State} (shared : s.platform.splitSpaces = false) (q : Space) (a : Addr) (v : Byte) :
    s.poke q a v = s.poke .data a v := by
  cases q with
  | data => rfl
  | program => exact State.poke_program_shared shared a v

theorem State.peek_shared {s : State} (shared : s.platform.splitSpaces = false) (sp : Space) (x : Addr) :
    s.peek sp x = s.peek .data x := by
  cases sp with
  | data => rfl
  | program => exact State.peek_program_shared shared x

/-- A store to either space, seen from either space: the byte read is the one stored, at a place the same in every
state of the platform, or it is as it was. -/
theorem State.peek_poke_cases {s : State} (inv : s.Inv) (q : Space) (a : Addr) (v : Byte) (sp : Space) (x : Addr) :
    ((s.poke q a v).peek sp x = v ∧ ∀ t : State, t.platform = s.platform → t.peek sp x = t.peek q a) ∨
      (s.poke q a v).peek sp x = s.peek sp x := by
  cases split : s.platform.splitSpaces with
  | false =>
    rw [State.poke_shared split, State.peek_shared (s := s.poke .data a v) split, State.peek_shared split]
    by_cases hx : x = a
    · subst hx
      exact Or.inl ⟨State.peek_poke_self inv.mem_wf x v, fun t ht =>
        (State.peek_shared (ht ▸ split) sp x).trans (State.peek_shared (ht ▸ split) q x).symm⟩
    · exact Or.inr (State.peek_poke_ne s v hx)
  | true =>
    by_cases hx : x = a
    · subst hx
      cases q with
      | data =>
        cases sp with
        | data => exact Or.inl ⟨State.peek_poke_self inv.mem_wf x v, fun _ _ => rfl⟩
        | program => exact Or.inr (State.peek_poke_program split x x v)
      | program =>
        cases sp with
        | data => exact Or.inr (State.peek_data_poke_program split x x v)
        | program => exact Or.inl ⟨State.peek_poke_program_self inv x v, fun _ _ => rfl⟩
    · refine Or.inr ?_
      cases q with
      | data =>
        cases sp with
        | data => exact State.peek_poke_ne s v hx
        | program => exact State.peek_poke_program split a x v
      | program =>
        cases sp with
        | data => exact State.peek_data_poke_program split a x v
        | program => exact State.peek_poke_program_ne s v hx

/-- The bytes that the aborted step left as they were stay so. -/
theorem peek_abortStores {old : State} (places : List (Space × Addr)) {t : State} (inv : t.Inv)
    (platform : t.platform = old.platform) {sp : Space} {x : Addr} (h : t.peek sp x = old.peek sp x) :
    (abortStores old places t).peek sp x = old.peek sp x := by
  induction places generalizing t with
  | nil => exact h
  | cons place places ih =>
    obtain ⟨q, a⟩ := place
    have bumped : t.bump.Inv := ⟨inv.mem_wf, inv.pmem_wf, inv.pc_even⟩
    refine ih ((Kept.poke q a _ t.bump).inv bumped) ((State.poke_platform ..).trans platform) ?_
    rcases State.peek_poke_cases bumped q a (anyIf (old.peek q a) (t.peek q a) (Config.anyByte t.draws)) sp x with
      ⟨stored, same⟩ | kept
    · have there : t.peek q a = old.peek q a := by
        rw [← same t rfl, ← same old platform.symm, h]
      rw [stored, anyIf_kept there, same old platform.symm]
    · exact kept.trans h

theorem Loc.kept_abortStep {l : Loc} (hl : l ∈ resetKeeps) {s u : State} {p : Pins} {rest : List Pins} (h : l.kept s u) :
    l.kept s (abortStep (s.withInputs p rest) u) := by
  obtain ⟨m, q, d, k, stores⟩ := abortStores_eq (s.withInputs p rest) u.stores u
  rw [abortStep, stores]
  cases l <;> first | exact absurd hl (by decide) | exact h | exact anyIf_kept h _

theorem abortStep_hid_pins (old u : State) : (abortStep old u).hid = u.hid ∧ (abortStep old u).pins = u.pins := by
  obtain ⟨m, q, d, k, stores⟩ := abortStores_eq old u.stores u
  rw [abortStep, stores]
  exact ⟨rfl, rfl⟩

/-- Settles O10: the vector words read on a quiet platform, and what an aborted step leaves. -/
theorem resetSequence : Obligations.ResetSequence := by
  refine ⟨fun s p rest quiet inputs between => ?_, fun s u p rest inv quiet inputs inside body => ?_⟩
  · have now : (s.withInputs p rest).Quiet := quiet.of_platform rfl
    refine ⟨_, (inputs.step_between between).trans (congrArg _ now.resetSequence), rfl, rfl, rfl, rfl, rfl,
      goesTo_loadResetVector .., rfl, rfl, rfl, rfl, rfl, ?_⟩
    exact ((Frame.withInputs p rest s).trans rfl (Frame.loadResetVector ..)).mono (by decide) fun _ h => h
  · rw [inputs.takeInputs] at body
    have kept := (Kept.stepBody (s.withInputs p rest) u body).trans (Kept.abortStep (s.withInputs p rest) u)
    have now : (abortStep (s.withInputs p rest) u).Quiet := quiet.of_platform kept.platform
    obtain ⟨hid, pins⟩ := abortStep_hid_pins (s.withInputs p rest) u
    refine ⟨_, (inputs.step_inside inside body).trans (congrArg _ now.resetSequence), rfl, rfl, rfl, rfl, rfl,
      goesTo_loadResetVector .., rfl, rfl, rfl, rfl, rfl, rfl, ?_, fun l hl h => ?_, fun sp x h => ?_⟩
    · rw [← hid, ← pins]
      rfl
    · have written := Frame.loadResetVector ((abortStep (s.withInputs p rest) u).peekWord .program 0x00000#20)
        ((abortStep (s.withInputs p rest) u).peekWord .program 0x00002#20)
        ((abortStep (s.withInputs p rest) u).peekWord .program 0x00004#20)
        ((abortStep (s.withInputs p rest) u).peekWord .program 0x00006#20) (abortStep (s.withInputs p rest) u)
      exact (Loc.kept_abortStep hl h).trans (written.parts l (resetKeeps_not_written l hl))
    · have step := Kept.stepBody (s.withInputs p rest) u body
      exact peek_abortStores (old := s.withInputs p rest) u.stores (step.inv ⟨inv.mem_wf, inv.pmem_wf, inv.pc_even⟩)
        step.platform h

end Sys2Proof.Machine
end

section
/-!
PROOFS. Double bus faults (60_exceptions.md R652; 70_reset_and_hazards.md R725).
-/

namespace Sys2Proof.Machine

/-! ### Accesses inside the double-bus-fault window -/

/-- What stays through the accesses of bus error processing, of the fetch of its handler and of the reset vector, on any
platform; and, where no other master writes, the frame. -/
structure Held (may : List Loc) (bytes : List Addr) (s u : State) : Prop where
  platform : u.platform = s.platform
  enabled : u.hid.bdmEnabled = s.hid.bdmEnabled
  latch : u.hid.berrLatch = s.hid.berrLatch
  window : u.hid.faultWindow = s.hid.faultWindow
  frame : s.platform.externalMasters = false → Frame may bytes s u

theorem Held.refl (s : State) : Held [] [] s s := ⟨rfl, rfl, rfl, rfl, fun _ => Frame.refl s⟩

theorem Held.trans {may may' : List Loc} {bytes bytes' : List Addr} {s t u : State} (h : Held may bytes s t)
    (k : Held may' bytes' t u) : Held (may ++ may') (bytes ++ bytes') s u :=
  ⟨k.platform.trans h.platform, k.enabled.trans h.enabled, k.latch.trans h.latch, k.window.trans h.window, fun none =>
    (h.frame none).trans h.platform (k.frame (by rw [h.platform, none]))⟩

theorem Held.mono {may may' : List Loc} {bytes bytes' : List Addr} {s u : State} (h : Held may bytes s u)
    (parts : ∀ l, l ∈ may → l ∈ may') (places : ∀ x, x ∈ bytes → x ∈ bytes') : Held may' bytes' s u :=
  ⟨h.platform, h.enabled, h.latch, h.window, fun none => (h.frame none).mono parts places⟩

/-- A change of the state that does not touch the hidden part is held as its frame says. -/
theorem Held.of_frame {may : List Loc} {bytes : List Addr} {s u : State} (platform : u.platform = s.platform)
    (hid : u.hid = s.hid) (frame : Frame may bytes s u) : Held may bytes s u :=
  ⟨platform, by rw [hid], by rw [hid], by rw [hid], fun _ => frame⟩

/-- Other masters write memory alone. -/
theorem Held.masters (s : State) : Held [] [] s s.masters ∧ s.masters.run = s.run :=
  ⟨⟨State.masters_platform s, by rw [State.masters_hid], by rw [State.masters_hid], by rw [State.masters_hid], fun none => by
    rw [State.masters_of_none none]
    exact Frame.refl s⟩, State.masters_run s⟩

theorem Held.poke (a : Addr) (v : Byte) (s : State) : Held [] [a] s (s.poke .data a v) :=
  Held.of_frame rfl rfl (Frame.poke a v s)

theorem Held.pokeMaybe (a : Addr) (v : Byte) (s : State) : Held [] [a] s (s.pokeMaybe .data a v) :=
  Held.of_frame rfl rfl (Working.pokeMaybe a v s).frame

theorem Held.bump (s : State) : Held [] [] s s.bump := Held.of_frame rfl rfl (Working.bump s).frame

/-- The bus cycles of a word read, before the platform's signals. -/
theorem Held.busReadWord (sp : Space) (a : Addr) (s : State) :
    Held [] [] s (s.busReadWord sp a).2 ∧ (s.busReadWord sp a).2.run = s.run := by
  have twice := (Held.masters s).1.trans (Held.masters s.masters).1
  have run : s.masters.masters.run = s.run := by rw [State.masters_run, State.masters_run]
  rw [State.busReadWord]
  split
  · exact ⟨twice.trans (Held.bump _), run⟩
  · exact ⟨twice, run⟩

/-- The bus cycles of a word write, before the platform's signals. -/
theorem Held.busWriteWord (a : Addr) (v : Word) (s : State) :
    Held [] (wordAt a) s (s.busWriteWord .data a v) ∧ (s.busWriteWord .data a v).run = s.run := by
  have before := (Held.masters s).1
  rw [State.busWriteWord]
  split
  · have first := before.trans (Held.pokeMaybe a (hi v) s.masters)
    refine ⟨(first.trans (Held.masters _).1).trans (Held.pokeMaybe (a + 1) (lo v) _), ?_⟩
    exact (State.masters_run _).trans (State.masters_run s)
  · have first := before.trans (Held.poke a (hi v) s.masters)
    refine ⟨(first.trans (Held.masters _).1).trans (Held.poke (a + 1) (lo v) _), ?_⟩
    exact (State.masters_run _).trans (State.masters_run s)

/-- The run state after an access inside the window: a bus error is a double bus fault (60_exceptions.md R652). -/
def runAfter (error : Bool) (s : State) : RunState := if error then afterDoubleFault s.hid.bdmEnabled else s.run

theorem runAfter_true (s : State) : runAfter true s = afterDoubleFault s.hid.bdmEnabled := rfl

theorem runAfter_false (s : State) : runAfter false s = s.run := rfl

theorem afterDoubleFault_ne_running (enabled : Bool) : afterDoubleFault enabled ≠ .running := by
  cases enabled <;> decide

theorem Frame.doubleBusFault (s : State) : Frame [.run] [] s s.doubleBusFault :=
  Frame.of_parts rfl rfl rfl fun l h => by
    cases l <;> first | exact absurd (by decide) h | exact rfl | exact ⟨rfl, rfl⟩

/-- The parts that the platform's signals after an access may change. -/
def signalLocs (sp : Space) : List Loc :=
  match sp with
  | .data => [.run, .bkptPending]
  | .program => [.run]

/-- A bus error inside the window. -/
theorem Held.berr {s : State} (window : s.hid.faultWindow = true) (error : Bool) :
    Held [.run] [] s (if error then s.noteBerr else s) ∧ (if error then s.noteBerr else s).run = runAfter error s := by
  cases error with
  | false => exact ⟨(Held.refl s).mono (by simp) fun _ h => h, rfl⟩
  | true =>
    rw [if_pos rfl, State.noteBerr, window, if_pos rfl]
    exact ⟨Held.of_frame rfl rfl (Frame.doubleBusFault s), rfl⟩

/-- A breakpoint made pending. -/
theorem Held.bkpt (s : State) :
    Held [.bkptPending] [] s { s with hid := { s.hid with bkptPending := true } } :=
  ⟨rfl, rfl, rfl, rfl, fun _ => Frame.of_parts rfl rfl rfl fun l h => by
    cases l <;> first | exact absurd (by decide) h | exact rfl | exact ⟨rfl, rfl⟩⟩

/-- The platform's signals after an access inside the window. -/
theorem Held.noteAccess {s : State} (window : s.hid.faultWindow = true) (sp : Space) (write : Bool) (cycles : List Addr) :
    Held (signalLocs sp) [] s (s.noteAccess sp write cycles) ∧
      (s.noteAccess sp write cycles).run = runAfter (s.busError sp write cycles) s := by
  obtain ⟨held, run⟩ := Held.berr window (s.busError sp write cycles)
  rw [State.noteAccess]
  cases sp with
  | program => exact ⟨held, run⟩
  | data =>
    dsimp only
    generalize (if s.busError .data write cycles then s.noteBerr else s) = u at held run ⊢
    split
    · exact ⟨held.trans (Held.bkpt u), run⟩
    · exact ⟨held.mono (by decide) fun _ h => h, run⟩

/-- An access whose bus cycles leave `u`, with the platform's signals. -/
theorem Held.access {bytes : List Addr} {s u : State} (window : s.hid.faultWindow = true) (held : Held [] bytes s u)
    (run : u.run = s.run) (sp : Space) (write : Bool) (cycles : List Addr) :
    Held (signalLocs sp) bytes s (u.noteAccess sp write cycles) ∧
      (u.noteAccess sp write cycles).run = runAfter (s.busError sp write cycles) s := by
  obtain ⟨signals, after⟩ := Held.noteAccess (held.window.trans window) sp write cycles
  refine ⟨(held.trans signals).mono (by simp) (by simp), ?_⟩
  rw [after, State.busError, held.platform, runAfter, run, held.enabled]
  rfl

theorem Held.readWord {s : State} (window : s.hid.faultWindow = true) (a : Addr) :
    Held [.run, .bkptPending] [] s (s.readWord a).2 ∧
      (s.readWord a).2.run = runAfter (s.busError .data false (wordCycles a)) s := by
  obtain ⟨held, run⟩ := Held.busReadWord .data a s
  exact Held.access window held run .data false (wordCycles a)

theorem Held.progRead {s : State} (window : s.hid.faultWindow = true) (a : Addr) :
    Held [.run] [] s (s.progRead a).2 ∧
      (s.progRead a).2.run = runAfter (s.busError .program false (wordCycles a)) s := by
  obtain ⟨held, run⟩ := Held.busReadWord .program a s
  exact Held.access window held run .program false (wordCycles a)

theorem Held.pushWord {s : State} (window : s.hid.faultWindow = true) (v : Word) :
    Held [.run, .bkptPending, .sp, .sk] (wordAt s.skSp) s (s.pushWord v) ∧
      (s.pushWord v).run = runAfter (s.busError .data true (wordCycles s.skSp)) s ∧
      (s.pushWord v).skSp = s.skSp - 2 := by
  obtain ⟨held, run⟩ := Held.busWriteWord s.skSp v s
  obtain ⟨signals, after⟩ := Held.access window held run .data true (wordCycles s.skSp)
  have pointer : Held [.sp, .sk] [] (s.writeWord s.skSp v) (s.pushWord v) :=
    Held.of_frame rfl rfl (Frame.setSkSp (s.skSp - 2) (s.writeWord s.skSp v))
  exact ⟨(signals.trans pointer).mono (by decide) (by simp), after, State.skSp_setSkSp ..⟩

theorem Held.busError {may : List Loc} {bytes : List Addr} {s u : State} (h : Held may bytes s u) (sp : Space)
    (write : Bool) (cycles : List Addr) : u.busError sp write cycles = s.busError sp write cycles := by
  rw [State.busError, State.busError, h.platform]

/-! ### Exception processing abandoned -/

theorem Held.abandonFrame (top : Addr) (words : Nat) (s : State) :
    Held [.sp, .sk] (frameAddresses top words) s (s.abandonFrame top words) ∧
      (s.abandonFrame top words).run = s.run := by
  obtain ⟨m, d, l, loose⟩ := s.looseBytes_eq (frameAddresses top words)
  have same : (s.abandonFrame top words).platform = s.platform ∧ (s.abandonFrame top words).hid = s.hid ∧
      (s.abandonFrame top words).run = s.run := by
    rw [State.abandonFrame, loose]
    exact ⟨rfl, rfl, rfl⟩
  obtain ⟨platform, hid, run⟩ := same
  exact ⟨Held.of_frame platform hid (Frame.abandonFrame top words s), run⟩

theorem frameAddresses_two (top : Addr) : frameAddresses top 2 = wordAt top ++ wordAt (top - 2) := by
  simp [frameAddresses, wordAt, List.range_succ]

/-- The words of the frame begun are among the bytes of the frame. -/
theorem frameAddresses_subset {words : Nat} (begun : words = 1 ∨ words = 2) (s : State) :
    ∀ x, x ∈ frameAddresses s.skSp words → x ∈ frameBytes s := by
  rcases begun with rfl | rfl
  · simp [frameAddresses, frameBytes, wordAt]
  · rw [frameAddresses_two]
    exact fun _ m => m

/-- Exception processing of `s` abandoned in `u`. -/
theorem Held.abandoned {may : List Loc} {bytes : List Addr} {s u : State} {words : Nat} (held : Held may bytes s u)
    (run : u.run = afterDoubleFault s.hid.bdmEnabled) (parts : ∀ l, l ∈ may → l ∈ [Loc.run, .bkptPending, .sp, .sk])
    (stored : ∀ x, x ∈ bytes → x ∈ frameBytes s) (begun : words = 1 ∨ words = 2) :
    Held [.run, .bkptPending, .sp, .sk] (frameBytes s) s (u.abandonFrame s.skSp words) ∧
      (u.abandonFrame s.skSp words).run = afterDoubleFault s.hid.bdmEnabled := by
  obtain ⟨abandoned, same⟩ := Held.abandonFrame s.skSp words u
  refine ⟨(held.trans abandoned).mono (fun l m => ?_) (fun x m => ?_), same.trans run⟩
  · rcases List.mem_append.mp m with m | m
    · exact parts l m
    · exact List.mem_append_right [Loc.run, .bkptPending] m
  · rcases List.mem_append.mp m with m | m
    · exact stored x m
    · exact frameAddresses_subset begun s x m

/-- The vector read of bus error processing ends in BERR. -/
theorem Held.enterHandler_berr {s : State} (window : s.hid.faultWindow = true)
    (error : s.busError .data false (wordCycles (vectorAddress 5)) = true) :
    Held [.run, .bkptPending] [] s (s.enterHandler .berr) ∧
      (s.enterHandler .berr).run = afterDoubleFault s.hid.bdmEnabled := by
  obtain ⟨held, run⟩ := Held.readWord window (vectorAddress 5)
  rw [error, runAfter_true] at run
  have vector : vectorAddress (vectorNumber s.platform .berr) = vectorAddress 5 := rfl
  rw [State.enterHandler, vector]
  rw [if_neg (run ▸ afterDoubleFault_ne_running _)]
  exact ⟨held, run⟩

/-- The two words of the frame, stacked where neither store ends in BERR, or a double bus fault before. -/
theorem Held.takeException_berr {s : State} (window : s.hid.faultWindow = true) (error : s.entryError 5 = true)
    (ret : Addr) :
    Held [.run, .bkptPending, .sp, .sk] (frameBytes s) s (s.takeException .berr ret) ∧
      (s.takeException .berr ret).run = afterDoubleFault s.hid.bdmEnabled := by
  have start : Held [.run] [] s (s.setRun .running) := Held.of_frame rfl rfl (Frame.setRun .running s)
  obtain ⟨held1, run1, skSp1⟩ : Held [.run, .bkptPending, .sp, .sk] (wordAt s.skSp) (s.setRun .running)
      ((s.setRun .running).pushWord (offset ret)) ∧
    ((s.setRun .running).pushWord (offset ret)).run =
      (if s.busError .data true (wordCycles s.skSp) then afterDoubleFault s.hid.bdmEnabled else .running) ∧
    ((s.setRun .running).pushWord (offset ret)).skSp = s.skSp - 2 :=
      Held.pushWord (s := s.setRun .running) window (offset ret)
  have first := start.trans held1
  rw [State.takeException]
  dsimp only
  generalize (s.setRun .running).pushWord (offset ret) = s1 at *
  cases e1 : s.busError .data true (wordCycles s.skSp) with
  | true =>
    rw [e1, if_pos rfl] at run1
    rw [if_neg (run1 ▸ afterDoubleFault_ne_running _)]
    exact first.abandoned run1 (by decide) (fun _ m => List.mem_append_left _ m) (Or.inl rfl)
  | false =>
    rw [e1, if_neg Bool.false_ne_true] at run1
    obtain ⟨held2, run2, -⟩ := Held.pushWord (first.window.trans window) (s.ccr.pack (bank ret))
    have second := first.trans held2
    rw [skSp1] at run2 second
    rw [runAfter, first.enabled, run1, first.busError] at run2
    rw [if_pos run1]
    generalize s1.pushWord (s.ccr.pack (bank ret)) = s2 at *
    cases e2 : s.busError .data true (wordCycles (s.skSp - 2)) with
    | true =>
      rw [e2, if_pos rfl] at run2
      rw [if_neg (run2 ▸ afterDoubleFault_ne_running _)]
      exact second.abandoned run2 (by decide) (fun _ m => m) (Or.inr rfl)
    | false =>
      have e3 : s2.busError .data false (wordCycles (vectorAddress 5)) = true := by
        rw [State.entryError, e1, e2] at error
        rw [second.busError]
        exact error
      obtain ⟨held3, run3⟩ : Held [.run, .bkptPending] [] s2 ((s2.acknowledge .berr).enterHandler .berr) ∧
          ((s2.acknowledge .berr).enterHandler .berr).run = afterDoubleFault s2.hid.bdmEnabled :=
        Held.enterHandler_berr (second.window.trans window) e3
      rw [e2, if_neg Bool.false_ne_true] at run2
      rw [second.enabled] at run3
      rw [if_pos run2, if_neg (run3 ▸ afterDoubleFault_ne_running _)]
      exact (second.trans held3).abandoned run3 (by decide) (fun _ m => by simpa [frameBytes] using m) (Or.inr rfl)

/-! ### The fetch inside the window -/

/-- The four bytes of the frame of a BERR handler, on top of the stack (60_exceptions.md R652). -/
theorem Held.abandonFetch (s : State) :
    Held [] (if s.hid.berrLatch then wordAt (s.skSp + 4) ++ wordAt (s.skSp + 2) else []) s s.abandonFetch ∧
      s.abandonFetch.run = s.run := by
  have place : s.skSp + 4 - 2 = s.skSp + 2 := by bv_omega
  rw [State.abandonFetch]
  split
  · obtain ⟨m, d, l, loose⟩ := s.looseBytes_eq (frameAddresses (s.skSp + 4) 2)
    have frame := Frame.looseBytes (frameAddresses (s.skSp + 4) 2) s
    rw [loose] at frame ⊢
    rw [frameAddresses_two, place] at frame
    exact ⟨Held.of_frame rfl rfl frame, rfl⟩
  · exact ⟨Held.refl s, rfl⟩

/-- A bus error on one of the first two words is a double bus fault (60_exceptions.md R652). -/
theorem runInstruction_fault {s : State} (window : s.hid.faultWindow = true) (running : s.run = .running)
    (error : s.busError .program false (wordCycles s.pc) = true ∨
      s.busError .program false (wordCycles (s.pc + 2)) = true) :
    ∃ u, runInstruction s = .next u.abandonFetch ∧ Held [.run] [] s u ∧ u.run = afterDoubleFault s.hid.bdmEnabled := by
  obtain ⟨held1, run1⟩ := Held.progRead window s.pc
  rw [runInstruction]
  cases e1 : s.busError .program false (wordCycles s.pc) with
  | true =>
    rw [e1, runAfter_true] at run1
    rw [if_neg (run1 ▸ afterDoubleFault_ne_running _)]
    exact ⟨_, rfl, held1, run1⟩
  | false =>
    have e2 := error.resolve_left (by rw [e1]; exact Bool.false_ne_true)
    obtain ⟨held2, run2⟩ := Held.progRead (held1.window.trans window) (s.pc + 2)
    rw [e1, runAfter_false, running] at run1
    rw [held1.busError, e2, runAfter_true, held1.enabled] at run2
    rw [if_pos run1, if_neg (run2 ▸ afterDoubleFault_ne_running _)]
    exact ⟨_, rfl, (held1.trans held2).mono (by simp) (by simp), run2⟩

/-! ### The reset vector -/

/-- One more read of program space inside the window, where none has failed yet. -/
theorem Held.progRead_next {s u : State} (window : s.hid.faultWindow = true) (held : Held [.run] [] s u)
    (running : u.run = .running) (a : Addr) :
    Held [.run] [] s (u.progRead a).2 ∧
      (u.progRead a).2.run =
        if s.busError .program false (wordCycles a) then afterDoubleFault s.hid.bdmEnabled else .running := by
  obtain ⟨read, run⟩ := Held.progRead (held.window.trans window) a
  refine ⟨(held.trans read).mono (by simp) (by simp), ?_⟩
  rw [run, runAfter, held.busError, held.enabled, running]

/-- A read after which the processor runs on did not fail, and one after which it does not was a double bus fault. -/
theorem read_clear {error enabled : Bool} {r : RunState} (h : r = if error then afterDoubleFault enabled else .running)
    (running : r = .running) : error = false := by
  cases error with
  | false => rfl
  | true => exact absurd (h.symm.trans running) (afterDoubleFault_ne_running enabled)

theorem read_fault {error enabled : Bool} {r : RunState} (h : r = if error then afterDoubleFault enabled else .running)
    (fault : ¬r = .running) : r = afterDoubleFault enabled := by
  cases error with
  | false => exact absurd h fault
  | true => exact h

/-- A bus error on one of the four vector reads is a double bus fault (70_reset_and_hazards.md R725). -/
theorem State.resetSequence_fault {s : State}
    (error : ∃ a ∈ [0x00000#20, 0x00002#20, 0x00004#20, 0x00006#20], s.busError .program false (wordCycles a) = true) :
    Held [.run] [] s.resetEntry s.resetSequence ∧ s.resetSequence.run = afterDoubleFault s.pins.bdmEnabled := by
  simp only [List.exists_mem_cons_iff, List.not_mem_nil, false_and, exists_false, or_false] at error
  have enabled : s.resetEntry.hid.bdmEnabled = s.pins.bdmEnabled := rfl
  have same (a : Addr) : s.resetEntry.busError .program false (wordCycles a) =
      s.busError .program false (wordCycles a) := rfl
  have start : Held [.run] [] s.resetEntry s.resetEntry := (Held.refl _).mono (by simp) (by simp)
  obtain ⟨held0, run0⟩ := Held.progRead_next rfl start rfl 0x00000#20
  rw [same, enabled] at run0
  rw [State.resetSequence]
  dsimp only
  split
  next running0 =>
    obtain ⟨held1, run1⟩ := Held.progRead_next rfl held0 running0 0x00002#20
    rw [same, enabled] at run1
    split
    next running1 =>
      obtain ⟨held2, run2⟩ := Held.progRead_next rfl held1 running1 0x00004#20
      rw [same, enabled] at run2
      split
      next running2 =>
        obtain ⟨held3, run3⟩ := Held.progRead_next rfl held2 running2 0x00006#20
        rw [same, enabled] at run3
        have clear0 := read_clear run0 running0
        have clear1 := read_clear run1 running1
        have clear2 := read_clear run2 running2
        rw [clear0, clear1, clear2] at error
        have last : s.busError .program false (wordCycles 0x00006#20) = true := by simpa using error
        rw [last, if_pos rfl] at run3
        rw [if_neg (run3 ▸ afterDoubleFault_ne_running _)]
        exact ⟨held3, run3⟩
      next fault => exact ⟨held2, read_fault run2 fault⟩
    next fault => exact ⟨held1, read_fault run1 fault⟩
  next fault => exact ⟨held0, read_fault run0 fault⟩

/-! ### The step -/

theorem Frame.resetEntry (s : State) :
    Frame [.ek, .xk, .yk, .zk, .s, .ip, .sm, .run, .bdmEnabled, .berrLatch, .berrWait, .inhibit, .irq7Pending, .irq7Prev,
      .bkptPending, .faultWindow] [] s s.resetEntry :=
  Frame.of_parts rfl rfl rfl fun l h => by
    cases l <;> first | exact absurd (by decide) h | exact rfl | exact ⟨rfl, rfl⟩

theorem State.fetching_platform (p : Pins) (rest : List Pins) (s : State) : (s.fetching p rest).platform = s.platform :=
  rfl

theorem State.fetching_pc (p : Pins) (rest : List Pins) (s : State) : (s.fetching p rest).pc = s.pc := rfl

/-- A double bus fault in bus error processing. -/
theorem NextInputs.step_berr_fault {p : Pins} {rest : List Pins} {s : State} (inputs : NextInputs p rest s)
    (off : p.reset = .off) (running : s.run = .running) (due : s.berrDue = true) (error : s.entryError 5 = true) :
    ∃ t, step s = .next t ∧ t.run = afterDoubleFault s.hid.bdmEnabled ∧
      (s.platform.externalMasters = false →
        Frame [.sp, .sk, .run, .faultWindow, .bkptPending, .inputs, .irq7Pending, .irq7Prev] (frameBytes s) s t) := by
  obtain ⟨held, run⟩ := Held.takeException_berr (s := (s.sampled p rest).openWindow) rfl error (s.pc + 6)
  refine ⟨_, inputs.step_berr off running due, run, fun none => ?_⟩
  exact (((Frame.sampled p rest s).trans rfl (Frame.openWindow _)).trans rfl (held.frame none)).mono (by decide)
    fun _ m => m

/-- A double bus fault in the fetch of the first two words. -/
theorem NextInputs.step_fetch_fault {p : Pins} {rest : List Pins} {s : State} (inputs : NextInputs p rest s)
    (begins : BeginsInstruction p s) (window : s.hid.faultWindow = true)
    (error : s.busError .program false (wordCycles s.pc) = true ∨
      s.busError .program false (wordCycles (s.pc + 2)) = true) :
    ∃ t, step s = .next t ∧ t.run = afterDoubleFault s.hid.bdmEnabled ∧
      (s.platform.externalMasters = false →
        Frame [.run, .inhibit, .berrWait, .inputs, .irq7Pending, .irq7Prev]
          (if s.hid.berrLatch then wordAt (s.skSp + 4) ++ wordAt (s.skSp + 2) else []) s t) := by
  have error' : (s.fetching p rest).busError .program false (wordCycles (s.fetching p rest).pc) = true ∨
      (s.fetching p rest).busError .program false (wordCycles ((s.fetching p rest).pc + 2)) = true := by
    rwa [State.busError, State.busError, s.fetching_platform p rest, s.fetching_pc p rest]
  obtain ⟨u, fetch, held, run⟩ := runInstruction_fault (s := s.fetching p rest) window begins.running error'
  obtain ⟨abandoned, same⟩ := Held.abandonFetch u
  refine ⟨u.abandonFetch, (inputs.step_instruction begins).trans fetch, same.trans run, fun none => ?_⟩
  have fetched : Frame [.run] [] (s.fetching p rest) u := held.frame none
  have stack : u.skSp = s.skSp := fetched.skSp_eq (by decide)
  have latch : u.hid.berrLatch = s.hid.berrLatch := held.latch
  have loose := abandoned.frame (by rw [held.platform, State.fetching_platform, none])
  rw [stack, latch] at loose
  have whole := ((Frame.fetching p rest s).trans (s.fetching_platform p rest) fetched).trans
    (held.platform.trans (s.fetching_platform p rest)) loose
  exact whole.mono (by decide) fun _ m => m

/-- A double bus fault on the reset vector. -/
theorem NextInputs.step_reset_fault {p : Pins} {rest : List Pins} {s : State} (inputs : NextInputs p rest s)
    (between : p.reset = .between)
    (error : ∃ a ∈ [0x00000#20, 0x00002#20, 0x00004#20, 0x00006#20], s.busError .program false (wordCycles a) = true) :
    ∃ t, step s = .next t ∧ t.run = afterDoubleFault p.bdmEnabled ∧
      (s.platform.externalMasters = false →
        Frame
          [.ek, .xk, .yk, .zk, .s, .ip, .sm, .run, .bdmEnabled, .berrLatch, .berrWait, .inhibit, .irq7Pending,
            .irq7Prev, .bkptPending, .faultWindow, .inputs] [] s t) := by
  obtain ⟨held, run⟩ := State.resetSequence_fault (s := s.withInputs p rest) error
  refine ⟨_, inputs.step_between between, run, fun none => ?_⟩
  exact (((Frame.withInputs p rest s).trans rfl (Frame.resetEntry _)).trans rfl (held.frame none)).mono (by decide)
    fun _ m => m

theorem NextInputs.step_halted {p : Pins} {rest : List Pins} {s : State} (inputs : NextInputs p rest s)
    (off : p.reset = .off) (halted : s.run = .halted) : step s = .next (s.withInputs p rest) := by
  have stays : (s.withInputs p rest).run = .halted := halted
  rw [inputs.step_off off, stepBody]
  simp only [stays]

/-- Settles O15: the first access that fails inside the window ends bus error processing, the fetch or the reset sequence. -/
theorem doubleBusFault : Obligations.DoubleBusFault :=
  ⟨fun _ _ _ inputs off running due error => inputs.step_berr_fault off running due error,
    fun _ _ _ inputs begins window error => inputs.step_fetch_fault begins window error,
    fun _ _ _ inputs between error => inputs.step_reset_fault between error,
    fun s p rest inputs off halted => ⟨_, inputs.step_halted off halted, rfl, Frame.withInputs p rest s⟩⟩

end Sys2Proof.Machine
end

end
